-- ==== Sys2Proof/Word.lean ====
section
/-! DEFINITION. The two word types of WSFC: a byte of a stream or buffer, and the 32-bit value that
lengths, the masking key and the SHA-1 words have (00 R11 to R13: every number is unsigned). -/

namespace Sys2Proof

/-- A byte, bit 7 the most significant and the first on the wire (00 R11). -/
abbrev Byte := BitVec 8

/-- A 32-bit unsigned value: a payload length (40 R140), the packed masking key (10 R38), a SHA-1 word. -/
abbrev Word := BitVec 32

end Sys2Proof
end

