-- ==== Sys2Proof/Syntax.lean ====
section
/-! DEFINITION. The instructions of WSFC, one constructor per row of spec/opcode_table.json: the ten
command words of 30 R111, the six reserved-command rows of 30 R118, the sixteen frame opcodes of 30 R104. -/

namespace Sys2Proof

/-- The two encoding spaces (30, introduction): a command word the host writes to `CMD`, and the header
of a frame on the receive stream. -/
inductive Space where
  | command
  | frame
deriving DecidableEq, Repr

/-- An instruction. A command has no operand field (30 R110). A reserved command keeps its whole word. A
frame instruction keeps every header field but the opcode its constructor names (30 R101, R102). -/
inductive Instr where
  | nop
  | hsderive
  | takeok
  | takefail
  | decode
  | encode
  | encclose
  | step
  | run
  | release
  | reservedLowA (word : Byte)
  | reservedLowC (word : Byte)
  | reservedBit4 (word : Byte)
  | reservedBit5 (word : Byte)
  | reservedBit6 (word : Byte)
  | reservedBit7 (word : Byte)
  | frameCont (fin : Bool) (rsv : BitVec 3) (masked : Bool) (len7 : BitVec 7)
  | frameText (fin : Bool) (rsv : BitVec 3) (masked : Bool) (len7 : BitVec 7)
  | frameBinary (fin : Bool) (rsv : BitVec 3) (masked : Bool) (len7 : BitVec 7)
  | frameRsvd3 (fin : Bool) (rsv : BitVec 3) (masked : Bool) (len7 : BitVec 7)
  | frameRsvd4 (fin : Bool) (rsv : BitVec 3) (masked : Bool) (len7 : BitVec 7)
  | frameRsvd5 (fin : Bool) (rsv : BitVec 3) (masked : Bool) (len7 : BitVec 7)
  | frameRsvd6 (fin : Bool) (rsv : BitVec 3) (masked : Bool) (len7 : BitVec 7)
  | frameRsvd7 (fin : Bool) (rsv : BitVec 3) (masked : Bool) (len7 : BitVec 7)
  | frameClose (fin : Bool) (rsv : BitVec 3) (masked : Bool) (len7 : BitVec 7)
  | framePing (fin : Bool) (rsv : BitVec 3) (masked : Bool) (len7 : BitVec 7)
  | framePong (fin : Bool) (rsv : BitVec 3) (masked : Bool) (len7 : BitVec 7)
  | frameRsvdB (fin : Bool) (rsv : BitVec 3) (masked : Bool) (len7 : BitVec 7)
  | frameRsvdC (fin : Bool) (rsv : BitVec 3) (masked : Bool) (len7 : BitVec 7)
  | frameRsvdD (fin : Bool) (rsv : BitVec 3) (masked : Bool) (len7 : BitVec 7)
  | frameRsvdE (fin : Bool) (rsv : BitVec 3) (masked : Bool) (len7 : BitVec 7)
  | frameRsvdF (fin : Bool) (rsv : BitVec 3) (masked : Bool) (len7 : BitVec 7)
deriving DecidableEq, Repr

end Sys2Proof
end

