-- ==== Sys2Proof/WellFormed.lean ====
section
/-! DEFINITION. Which terms of Instr are instructions: a reserved command's word lies in its row of the
opcode table, and in no earlier one (log 16). Commands and frames have no ill-formed term: every value of
every header field is an encoding (30 R108). -/

namespace Sys2Proof

/-- The words of each reserved-command row (30 R118), the overlapping rows made disjoint by giving a word
to the row of its lowest set bit of `CMD[7:4]` (log 16, DESIGN CHOICE: all six rows name one rule). -/
def inReservedLowA (w : Byte) : Bool := w.extractLsb' 1 7 == 0x05
def inReservedLowC (w : Byte) : Bool := w.extractLsb' 2 6 == 0x03
def inReservedBit4 (w : Byte) : Bool := w.getLsbD 4
def inReservedBit5 (w : Byte) : Bool := w.extractLsb' 4 2 == 0b10
def inReservedBit6 (w : Byte) : Bool := w.extractLsb' 4 3 == 0b100
def inReservedBit7 (w : Byte) : Bool := w.extractLsb' 4 4 == 0b1000

/-- A term that is an instruction. -/
def Instr.wellFormed : Instr → Bool
  | .reservedLowA w => inReservedLowA w
  | .reservedLowC w => inReservedLowC w
  | .reservedBit4 w => inReservedBit4 w
  | .reservedBit5 w => inReservedBit5 w
  | .reservedBit6 w => inReservedBit6 w
  | .reservedBit7 w => inReservedBit7 w
  | .nop => true
  | .hsderive => true
  | .takeok => true
  | .takefail => true
  | .decode => true
  | .encode => true
  | .encclose => true
  | .step => true
  | .run => true
  | .release => true
  | .frameCont _ _ _ _ => true
  | .frameText _ _ _ _ => true
  | .frameBinary _ _ _ _ => true
  | .frameRsvd3 _ _ _ _ => true
  | .frameRsvd4 _ _ _ _ => true
  | .frameRsvd5 _ _ _ _ => true
  | .frameRsvd6 _ _ _ _ => true
  | .frameRsvd7 _ _ _ _ => true
  | .frameClose _ _ _ _ => true
  | .framePing _ _ _ _ => true
  | .framePong _ _ _ _ => true
  | .frameRsvdB _ _ _ _ => true
  | .frameRsvdC _ _ _ _ => true
  | .frameRsvdD _ _ _ _ => true
  | .frameRsvdE _ _ _ _ => true
  | .frameRsvdF _ _ _ _ => true

end Sys2Proof
end

