-- ==== Sys2Proof/Decode.lean ====
section
/-! DEFINITION. The decoder of both encoding spaces, total on any bytes, and the encoder, both written from
30 R101, R102, R104, R110 to R112. -/

namespace Sys2Proof

/-- `fin`, bit 7 of header byte 0 (30 R101). -/
def headerFin (b0 : Byte) : Bool := b0.getLsbD 7

/-- RSV1 to RSV3, bits 6 to 4 of header byte 0 (30 R101). -/
def headerRsv (b0 : Byte) : BitVec 3 := b0.extractLsb' 4 3

/-- `opcode`, bits 3 to 0 of header byte 0 (30 R101). -/
def headerOpcode (b0 : Byte) : BitVec 4 := b0.extractLsb' 0 4

/-- `masked`, bit 7 of header byte 1 (30 R102). -/
def headerMasked (b1 : Byte) : Bool := b1.getLsbD 7

/-- `LEN7`, bits 6 to 0 of header byte 1 (30 R102). -/
def headerLen7 (b1 : Byte) : BitVec 7 := b1.extractLsb' 0 7

/-- Header byte 0 from its fields (30 R101). -/
def headerByte0 (fin : Bool) (rsv : BitVec 3) (opcode : BitVec 4) : Byte := BitVec.ofBool fin ++ rsv ++ opcode

/-- Header byte 1 from its fields (30 R102). -/
def headerByte1 (masked : Bool) (len7 : BitVec 7) : Byte := BitVec.ofBool masked ++ len7

/-- The instruction of a command word (30 R110 to R112). Every byte has one; a reserved word goes to the
table row of its lowest set bit of `CMD[7:4]` (log 16). -/
def decodeCommand (w : Byte) : Instr :=
  if inReservedBit4 w then .reservedBit4 w
  else if inReservedBit5 w then .reservedBit5 w
  else if inReservedBit6 w then .reservedBit6 w
  else if inReservedBit7 w then .reservedBit7 w
  else match w.toNat with
    | 0x0 => .nop
    | 0x1 => .hsderive
    | 0x2 => .takeok
    | 0x3 => .takefail
    | 0x4 => .decode
    | 0x5 => .encode
    | 0x6 => .encclose
    | 0x7 => .step
    | 0x8 => .run
    | 0x9 => .release
    | 0xA => .reservedLowA w
    | 0xB => .reservedLowA w
    | _ => .reservedLowC w

/-- The frame instruction of an opcode and the other header fields (30 R104). -/
def frameOf (opcode : BitVec 4) (fin : Bool) (rsv : BitVec 3) (masked : Bool) (len7 : BitVec 7) : Instr :=
  match opcode.toNat with
  | 0x0 => .frameCont fin rsv masked len7
  | 0x1 => .frameText fin rsv masked len7
  | 0x2 => .frameBinary fin rsv masked len7
  | 0x3 => .frameRsvd3 fin rsv masked len7
  | 0x4 => .frameRsvd4 fin rsv masked len7
  | 0x5 => .frameRsvd5 fin rsv masked len7
  | 0x6 => .frameRsvd6 fin rsv masked len7
  | 0x7 => .frameRsvd7 fin rsv masked len7
  | 0x8 => .frameClose fin rsv masked len7
  | 0x9 => .framePing fin rsv masked len7
  | 0xA => .framePong fin rsv masked len7
  | 0xB => .frameRsvdB fin rsv masked len7
  | 0xC => .frameRsvdC fin rsv masked len7
  | 0xD => .frameRsvdD fin rsv masked len7
  | 0xE => .frameRsvdE fin rsv masked len7
  | _ => .frameRsvdF fin rsv masked len7

/-- The frame instruction of two header bytes (30 R101, R102, R104). -/
def decodeFrameHeader (b0 b1 : Byte) : Instr :=
  frameOf (headerOpcode b0) (headerFin b0) (headerRsv b0) (headerMasked b1) (headerLen7 b1)

/-- Why a byte sequence holds no instruction. The spec has no undefined encoding (30 R108, R112), so the only
reason is too few bytes. -/
inductive DecodeError where
  | noCommandWord
  | shortFrameHeader
deriving DecidableEq, Repr

/-- The instruction at the front of a byte sequence of the given space, with the rest of the sequence. -/
def decode (sp : Space) (bs : List Byte) : Except DecodeError (Instr × List Byte) :=
  match sp, bs with
  | .command, w :: rest => .ok (decodeCommand w, rest)
  | .command, [] => .error .noCommandWord
  | .frame, b0 :: b1 :: rest => .ok (decodeFrameHeader b0 b1, rest)
  | .frame, [_] => .error .shortFrameHeader
  | .frame, [] => .error .shortFrameHeader

/-- The space an instruction is encoded in. -/
def Instr.space : Instr → Space
  | .nop | .hsderive | .takeok | .takefail | .decode | .encode | .encclose | .step | .run | .release => .command
  | .reservedLowA _ | .reservedLowC _ | .reservedBit4 _ | .reservedBit5 _ | .reservedBit6 _ | .reservedBit7 _ =>
    .command
  | .frameCont _ _ _ _ | .frameText _ _ _ _ | .frameBinary _ _ _ _ | .frameRsvd3 _ _ _ _ | .frameRsvd4 _ _ _ _
  | .frameRsvd5 _ _ _ _ | .frameRsvd6 _ _ _ _ | .frameRsvd7 _ _ _ _ | .frameClose _ _ _ _ | .framePing _ _ _ _
  | .framePong _ _ _ _ | .frameRsvdB _ _ _ _ | .frameRsvdC _ _ _ _ | .frameRsvdD _ _ _ _ | .frameRsvdE _ _ _ _
  | .frameRsvdF _ _ _ _ => .frame

/-- The bytes of an instruction: one command word (30 R111, R112), or the two header bytes of a frame
(30 R101, R102). -/
def encode : Instr → List Byte
  | .nop => [0x00]
  | .hsderive => [0x01]
  | .takeok => [0x02]
  | .takefail => [0x03]
  | .decode => [0x04]
  | .encode => [0x05]
  | .encclose => [0x06]
  | .step => [0x07]
  | .run => [0x08]
  | .release => [0x09]
  | .reservedLowA w => [w]
  | .reservedLowC w => [w]
  | .reservedBit4 w => [w]
  | .reservedBit5 w => [w]
  | .reservedBit6 w => [w]
  | .reservedBit7 w => [w]
  | .frameCont f r m l => [headerByte0 f r 0x0, headerByte1 m l]
  | .frameText f r m l => [headerByte0 f r 0x1, headerByte1 m l]
  | .frameBinary f r m l => [headerByte0 f r 0x2, headerByte1 m l]
  | .frameRsvd3 f r m l => [headerByte0 f r 0x3, headerByte1 m l]
  | .frameRsvd4 f r m l => [headerByte0 f r 0x4, headerByte1 m l]
  | .frameRsvd5 f r m l => [headerByte0 f r 0x5, headerByte1 m l]
  | .frameRsvd6 f r m l => [headerByte0 f r 0x6, headerByte1 m l]
  | .frameRsvd7 f r m l => [headerByte0 f r 0x7, headerByte1 m l]
  | .frameClose f r m l => [headerByte0 f r 0x8, headerByte1 m l]
  | .framePing f r m l => [headerByte0 f r 0x9, headerByte1 m l]
  | .framePong f r m l => [headerByte0 f r 0xA, headerByte1 m l]
  | .frameRsvdB f r m l => [headerByte0 f r 0xB, headerByte1 m l]
  | .frameRsvdC f r m l => [headerByte0 f r 0xC, headerByte1 m l]
  | .frameRsvdD f r m l => [headerByte0 f r 0xD, headerByte1 m l]
  | .frameRsvdE f r m l => [headerByte0 f r 0xE, headerByte1 m l]
  | .frameRsvdF f r m l => [headerByte0 f r 0xF, headerByte1 m l]

/-- The instruction whose bits are `w`. Both spaces number 8 bits from 0 (30 R110, R104), so a word of at most
8 bits is read as a command word, a longer one as the first two header bytes of a frame (log 15). -/
def decodeTableWord (nbits w : Nat) : Option Instr :=
  if nbits ≤ 8 then some (decodeCommand (BitVec.ofNat 8 w))
  else some (decodeFrameHeader (BitVec.ofNat 8 w) (BitVec.ofNat 8 (w / 256)))

end Sys2Proof
end

