-- ==== Sys2Proof/Machine/Bytes.lean ====
section
/-! DEFINITION. Byte sequences and big-endian numbers (00 R12, 20 R78). -/

namespace Sys2Proof.Machine

/-- `BE16(n)` (00 R12). -/
def be16 (n : BitVec 16) : List Byte := [n.extractLsb' 8 8, n.extractLsb' 0 8]

/-- `BE32(n)` (00 R12). -/
def be32 (n : Word) : List Byte :=
  [n.extractLsb' 24 8, n.extractLsb' 16 8, n.extractLsb' 8 8, n.extractLsb' 0 8]

/-- `BE64(n)` (00 R12). -/
def be64 (n : BitVec 64) : List Byte := be32 (n.extractLsb' 32 32) ++ be32 (n.extractLsb' 0 32)

/-- The value of `acc` followed by a byte sequence, most significant byte first. -/
def fromBEAcc (acc : Nat) : List Byte → Nat
  | [] => acc
  | b :: bs => fromBEAcc (acc * 256 + b.toNat) bs

/-- `fromBE(s)` (00 R12). -/
def fromBE (s : List Byte) : Nat := fromBEAcc 0 s

end Sys2Proof.Machine
end

