-- ==== Sys2Proof/Config.lean ====
section
/-! DEFINITION. What an implementation fixes (the open parameters of 00 R10) and the free values: what the
spec leaves open while the machine goes on. A free value is an opaque constant: nothing can evaluate it. -/

namespace Sys2Proof

/-- The open parameters of 00 R10 that one instance has, and which free values are its own. The state carries them, so that a statement about
every state holds for every choice of them (log 12); no step writes them. `N_INSTANCES` is the length of
Machine/System.lean's list (log 20). -/
structure Config where
  /-- `PBUF_CAP`, bytes of the receive payload buffer. -/
  pbufCap : Nat
  /-- `TXBUF_CAP`, bytes of the transmit payload buffer. -/
  txbufCap : Nat
  /-- `HDR_CAP`, bytes of each header buffer. -/
  hdrCap : Nat
  /-- `CLOSE_REPLY_CODE`; the spec's value is 0x0008 (90 C4, 92 D15). -/
  closeReplyCode : BitVec 16
  /-- the MODEL's own: the number under which this instance has free values of its own (log 28). -/
  freeSource : Nat
deriving DecidableEq, Repr

/-- The parameters spec/95 assumes: every capacity 2^32 - 1, close reply code 0x0008 (log 12); the free values of number 0
(log 28). -/
def Config.default : Config where
  pbufCap := 4294967295
  txbufCap := 4294967295
  hdrCap := 4294967295
  closeReplyCode := 0x0008
  freeSource := 0

/-- What the environment does with one `TxWrite` (20 R76, R77). -/
inductive TxDraw where
  /-- the write completes: all of its (remaining) bytes reach TX -/
  | ok
  /-- the write fails after its first `k` (remaining) bytes reached TX (all of them if it has fewer) -/
  | fail (k : Nat)
  /-- the write is still in progress; its first `k` (remaining) bytes have reached TX so far -/
  | stall (k : Nat)
deriving DecidableEq, Repr, Inhabited

/-- The `n`-th free value of width `w` of the instance numbered `source` (log 7, log 28): a register after `IOTruncated` (42 R223), a host read that
"returns any value" (10 R24, R44). -/
opaque Config.freeValue (source w n : Nat) : BitVec w

/-- Byte `i` of a buffer whose content is unspecified since event `epoch` of the instance numbered `source`
(log 8, log 28): after reset (70 R343),
and `PBUF` after `IOTruncated` (42 R223). -/
opaque Config.freeByte (source epoch i : Nat) : Byte

/-- The outcome of the `n`-th `TxWrite` of the instance numbered `source` for which no draw is stated (log 6,
log 28): 20 R76, "a draw of the environment". -/
opaque Config.freeTxDraw (source n : Nat) : TxDraw

end Sys2Proof
end

