-- ==== Sys2Proof/Machine/State.lean ====
section
/-! DEFINITION. The state of one WSFC instance (10 R20) as plain data: the registers of 10 R22, the six
buffers of 10 R40, the streams (20 R71, R75), the hidden state of 10 R50 to R53, the event history of
10 R54, and the inputs a deterministic step must find in the state. -/

namespace Sys2Proof.Machine

/-- The session states of 10 R28. -/
inductive Sess where
  | hs
  | upg
  | opened
  | closed
deriving DecidableEq, Repr

/-- The outcome codes of 60 R300: the only values `STATUS` ever holds (10 R26). -/
inductive Status where
  | ok
  | closeReceived
  | notAnUpgradeRequest
  | missingHandshakeKey
  | streamTakeoverFailure
  | ioTruncated
  | ioError
  | fragmentationUnsupported
  | illegalCommand
  | illegalState
  | lengthUnrepresentable
deriving DecidableEq, Repr

/-- The six buffers of 10 R40. -/
inductive BufName where
  | pbuf
  | txbuf
  | hconn
  | hupg
  | hkey
  | accept
deriving DecidableEq, Repr

/-- What a byte of a buffer that nothing has written reads as. -/
inductive Blank where
  /-- 0x00: `ACCEPT` after reset (10 R45) -/
  | zeros
  /-- a free value for each byte, fixed since event `epoch` of the instance numbered `source` (70 R343, 42 R223;
  log 8, log 28) -/
  | unwritten (source epoch : Nat)
deriving DecidableEq, Repr

/-- A buffer: the bytes written, as cells with strictly rising indices, over its blank content. -/
structure Buffer where
  cells : List Host.Cell
  blank : Blank
deriving DecidableEq, Repr

/-- The canonical form of a buffer: strictly rising indices, and no cell equal to what an unlisted byte reads
as (a free value is no byte the model can write, so only zeros can be equal). -/
abbrev Buffer.wf (b : Buffer) : Prop :=
  b.cells.Pairwise (fun x y => x.1 < y.1) ∧ (b.blank = .zeros → ∀ c ∈ b.cells, c.2 ≠ 0)

/-- Whether RX can still deliver bytes (20 R72, R73): open, ended (`EOF`) or failed (`ERR`, 30 R115). -/
inductive RxEnd where
  | opened
  | ended
  | failed
deriving DecidableEq, Repr

/-- An output of the instance that is no register (10 R54). -/
inductive Event where
  /-- one byte appended to TX (20 R75) -/
  | sent (b : Byte)
  /-- `LOG(e)` on the observer port (60 R312) -/
  | log (code : Status)
  /-- the raw stream is closed (44 R266) -/
  | release
deriving DecidableEq, Repr

/-- The step of `DecodeFrame` a read waits in (42 R211, the states of 42 R230). -/
inductive RxPhase where
  /-- step 1, the two header bytes (`HDR0`, `HDR1`) -/
  | hdr
  /-- step 3, the extended length (`EXT`) -/
  | ext
  /-- step 4, the masking key (`KEY`), the payload length known -/
  | key (plen : Word)
  /-- step 5, the payload (`PAY`) -/
  | pay (plen : Word)
deriving DecidableEq, Repr

/-- The write of `EncodeFrame` in progress (43 R252). -/
inductive TxJob where
  /-- `WHDR`: `rest` of the header is not yet delivered, the payload write follows -/
  | header (rest payload : List Byte)
  /-- `WPAY`: `rest` of the payload is not yet delivered -/
  | payload (rest : List Byte)
deriving DecidableEq, Repr

/-- Whether the running loop command is `STEP` (one iteration, 44 R268) or `RUN` (44 R272). -/
inductive Loop where
  | step
  | run
deriving DecidableEq, Repr

/-- The command in progress and its hidden position (10 R50, R51): `idle` between commands; otherwise the
command waits in a stream access (20 R79). `got` is what the current read has taken so far. -/
inductive Engine where
  | idle
  /-- `DECODE` waits in `RxRead` -/
  | decode (phase : RxPhase) (got : List Byte)
  /-- `STEP` or `RUN` waits in `RxRead`; `RUN` is also here, with `hdr` and nothing taken, between iterations -/
  | frame (loop : Loop) (phase : RxPhase) (got : List Byte)
  /-- `ENCODE` or `ENCCLOSE` waits in `TxWrite` -/
  | encode (job : TxJob)
  /-- `STEP` or `RUN` waits in `TxWrite` of an echo -/
  | echo (loop : Loop) (job : TxJob)
  /-- `STEP` or `RUN` waits in `TxWrite` of the close reply -/
  | reply (job : TxJob)
deriving DecidableEq, Repr

/-- One thing the outside world does to the instance (30 R115, 44 R262): the host's port accesses and reset,
the peer's bytes and end of stream, the transport's progress on a write (log 1). -/
inductive Input where
  | writeReg (index : Byte) (value : Word)
  | readReg (index : Byte)
  | writeBuf (buf : BufName) (index : Nat) (value : Byte)
  | readBuf (buf : BufName) (index : Nat)
  | reset
  | peerSend (bytes : List Byte)
  | peerEnd (kind : RxEnd)
  | transport (draw : TxDraw)
deriving DecidableEq, Repr

/-- The state of one instance. -/
structure State where
  /-- the open parameters (00 R10); no step writes them -/
  cfg : Config
  status : Status
  sess : Sess
  owned : Bool
  closeRcvd : Bool
  hsok : Bool
  released : Bool
  http : BitVec 16
  rxb0 : Byte
  rxb1 : Byte
  rxplen : Word
  rxmkey : Word
  /-- `TXOPC[3:0]`; `TXOPC[7:4]` is hardwired 0 (10 R39) -/
  txopc : BitVec 4
  txlen : Word
  ccode : BitVec 16
  hconnLen : Word
  hupgLen : Word
  hkeyLen : Word
  pbuf : Buffer
  txbuf : Buffer
  hconn : Buffer
  hupg : Buffer
  hkey : Buffer
  accept : Buffer
  /-- the peer's bytes that have arrived on RX and are not consumed (20 R71) -/
  rx : List Byte
  rxEnd : RxEnd
  /-- bytes consumed since `TAKEOK` (20 R71) -/
  rxPos : Nat
  /-- the bytes on TX since `TAKEOK` (20 R75) -/
  tx : List Byte
  engine : Engine
  /-- every event so far, oldest first (10 R54) -/
  events : List Event
  /-- the MODEL's own: what the outside world does next, in order (log 1) -/
  inputs : List Input
  /-- the MODEL's own: the stated draws of the next `TxWrite`s (30 R115, log 6) -/
  txDraws : List TxDraw
  /-- the MODEL's own: index of the next unstated write draw (log 6) -/
  drawCount : Nat
  /-- the MODEL's own: index of the next free value (log 7) -/
  freeCount : Nat
  /-- the MODEL's own: what the last host read returned -/
  hostData : Word
deriving DecidableEq, Repr

/-- An access to an address the spec says does not exist stops the machine. -/
inductive Fault where
  /-- raised by a host read or write of a buffer byte at or above the buffer's capacity: "A host access at
  `i >= cap(B)` ... is refused" (10 R44). Safe: the spec gives no transition. -/
  | noSuchBufferByte
deriving DecidableEq, Repr

/-- The cases the spec itself refuses ("the model has no transition, so no claim covers it", 93), each under a
name of its own. All are safe: the model stops where no claim of the spec applies. -/
inductive Refusal where
  /-- raised by `exec` for an instruction that has no meaning yet; safe -/
  | notModelled (mnemonic : String)
  /-- raised by a host write of `CMD`, a register or a buffer while `BUSY = 1` (10 R24, 70 R346); safe -/
  | hostWriteWhileBusy
  /-- raised by a host write to `PBUF` or `ACCEPT` (10 R44); safe -/
  | readOnlyBuffer
  /-- raised by a reset while `OWNED = 1` or `BUSY = 1` (70 R341); safe -/
  | resetWhileActive
  /-- raised by `HSDERIVE` when a header length exceeds `HDR_CAP` (41 R171); safe -/
  | headerOverCapacity
  /-- raised by `ENCODE` and `ENCCLOSE` when `TXLEN` exceeds `TXBUF_CAP` (43 R247); safe -/
  | txlenOverCapacity
  /-- raised by `DecodeFrame` when the payload length exceeds `PBUF_CAP` (42 R229); safe -/
  | payloadOverCapacity
deriving DecidableEq, Repr

/-- The outcome of a step of WSFC. -/
abbrev Result := Host.Outcome State Fault Refusal

/-- The instance right after reset (70 R340, 10 R22, R27, R45) with the given parameters: the five buffers
whose content is unspecified (70 R343) read as free values of events 0 to 4 of the instance's own number (log 8,
log 28). -/
def State.resetWith (cfg : Config) : State where
  cfg := cfg
  status := .ok
  sess := .hs
  owned := false
  closeRcvd := false
  hsok := false
  released := false
  http := 0
  rxb0 := 0
  rxb1 := 0
  rxplen := 0
  rxmkey := 0
  txopc := 0
  txlen := 0
  ccode := 0
  hconnLen := 0
  hupgLen := 0
  hkeyLen := 0
  pbuf := { cells := [], blank := .unwritten cfg.freeSource 0 }
  txbuf := { cells := [], blank := .unwritten cfg.freeSource 1 }
  hconn := { cells := [], blank := .unwritten cfg.freeSource 2 }
  hupg := { cells := [], blank := .unwritten cfg.freeSource 3 }
  hkey := { cells := [], blank := .unwritten cfg.freeSource 4 }
  accept := { cells := [], blank := .zeros }
  rx := []
  rxEnd := .opened
  rxPos := 0
  tx := []
  engine := .idle
  events := []
  inputs := []
  txDraws := []
  drawCount := 0
  freeCount := 5
  hostData := 0

/-- The instance right after its first reset, with the parameters spec/95 assumes (log 12). -/
def State.reset : State := State.resetWith Config.default

end Sys2Proof.Machine
end

