-- ==== Sys2Proof/Machine/Flags.lean ====
section
/-! DEFINITION. The flags: the codes of `STATUS` (60 R300), the fields and the packed byte of `STATE`
(10 R27 to R33), and which states admit a command (44 R261). The frame flags `fin` and `masked` are fields of
the header bytes (Decode.lean). -/

namespace Sys2Proof.Machine

/-- The outcome code (60 R300). -/
def statusCode : Status → Byte
  | .ok => 0x00
  | .closeReceived => 0x01
  | .notAnUpgradeRequest => 0x10
  | .missingHandshakeKey => 0x11
  | .streamTakeoverFailure => 0x12
  | .ioTruncated => 0x20
  | .ioError => 0x21
  | .fragmentationUnsupported => 0x22
  | .illegalCommand => 0x30
  | .illegalState => 0x31
  | .lengthUnrepresentable => 0x32

/-- The encoding of `STATE.SESS` (10 R28). -/
def sessCode : Sess → BitVec 2
  | .hs => 0
  | .upg => 1
  | .opened => 2
  | .closed => 3

/-- `STATE.BUSY` (10 R30): a command is in progress. Between two steps that is a command that waits (log 4). -/
def busy (s : State) : Bool := s.engine != .idle

/-- The `STATE` register (10 R27): bit 7 reads 0, then `RELEASED`, `HSOK`, `CLOSE_RCVD`, `BUSY`, `OWNED`,
and `SESS` in bits [1:0]. -/
def stateReg (s : State) : Byte :=
  (0 : BitVec 1) ++ BitVec.ofBool s.released ++ BitVec.ofBool s.hsok ++ BitVec.ofBool s.closeRcvd ++
    BitVec.ofBool (busy s) ++ BitVec.ofBool s.owned ++ sessCode s.sess

/-- `CLOSE_RCVD` as the host sees it. `STEP` and `RUN` set the bit before the close reply is written (10 R31, 44
R268); while that write waits the host sees the value before the command (10 R24), which is 0 (44 R261; log 26). -/
def closeRcvdSeen (s : State) : Bool :=
  match s.engine with
  | .reply _ => false
  | .idle => s.closeRcvd
  | .decode _ _ => s.closeRcvd
  | .frame _ _ _ => s.closeRcvd
  | .encode _ => s.closeRcvd
  | .echo _ _ => s.closeRcvd

/-- The `STATE` register as the host reads it at any time (10 R24): no value that a command has written and not
ended with is visible. -/
def stateSeen (s : State) : Byte := stateReg { s with closeRcvd := closeRcvdSeen s }

/-- Whether `DECODE`, `STEP` and `RUN` are legal (44 R261): `OPEN` with `CLOSE_RCVD = 0`. -/
def mayDecode (s : State) : Bool := s.sess == .opened && !s.closeRcvd

/-- Whether `ENCODE`, `ENCCLOSE` and `RELEASE` are legal (44 R261): `OPEN`. -/
def mayEncode (s : State) : Bool := s.sess == .opened

end Sys2Proof.Machine
end

