-- ==== Sys2Proof/Machine/Ops.lean ====
section
/-! DEFINITION. The named operations over the state that the commands share: buffer bytes (10 R40, R44), the
stream primitives `RxRead` and `TxWrite` (20 R71 to R77), `Log` (60 R312), `CloseSession` (44 R266), error
entry (60 R313), interface errors (60 R307, R308) and reset (70 R340, R341). Nothing returns from an error
(60 R314), so there is no return operation. -/

namespace Sys2Proof.Machine

/-! ### Buffers -/

/-- The cell of index `i`, if one is listed. -/
def cellsFind (i : Nat) : List Host.Cell → Option Byte
  | [] => none
  | (j, v) :: cs => if j = i then some v else cellsFind i cs

/-- Put byte `v` at index `i`, keeping the indices strictly rising. -/
def cellsPut (i : Nat) (v : Byte) : List Host.Cell → List Host.Cell
  | [] => [(i, v)]
  | (j, w) :: cs =>
    if i < j then (i, v) :: (j, w) :: cs
    else if i = j then (i, v) :: cs
    else (j, w) :: cellsPut i v cs

/-- Remove the cell of index `i`. -/
def cellsDrop (i : Nat) : List Host.Cell → List Host.Cell
  | [] => []
  | (j, w) :: cs => if j = i then cs else (j, w) :: cellsDrop i cs

/-- What an unlisted byte of a buffer reads as: the reset content where the spec gives it (10 R45), else a
free value (70 R343, log 8). -/
def blankByte (k : Blank) (i : Nat) : Byte :=
  match k with
  | .zeros => 0
  | .unwritten source epoch => Config.freeByte source epoch i

/-- `BufRead(B, i)`: the byte the buffer holds at index `i` (00 R14). -/
def bufGet (b : Buffer) (i : Nat) : Byte :=
  match cellsFind i b.cells with
  | some v => v
  | none => blankByte b.blank i

/-- `BufWrite(B, i, v)` (00 R14), keeping the canonical form. -/
def bufSet (b : Buffer) (i : Nat) (v : Byte) : Buffer :=
  if b.blank = .zeros ∧ v = 0 then { b with cells := cellsDrop i b.cells }
  else { b with cells := cellsPut i v b.cells }

/-- Write a byte sequence from index `i` on; no other byte is written (42 R217). -/
def bufFill (b : Buffer) (i : Nat) : List Byte → Buffer
  | [] => b
  | v :: vs => bufFill (bufSet b i v) (i + 1) vs

/-- The `n` bytes from index `i` on. -/
def bufSlice (b : Buffer) (i : Nat) : Nat → List Byte
  | 0 => []
  | n + 1 => bufGet b i :: bufSlice b (i + 1) n

/-- A buffer whose whole content is unspecified since event `epoch` of the instance numbered `source`. -/
def bufUnwritten (source epoch : Nat) : Buffer := { cells := [], blank := .unwritten source epoch }

/-- The six buffers are in canonical form. -/
abbrev Memory.wf (s : State) : Prop :=
  s.pbuf.wf ∧ s.txbuf.wf ∧ s.hconn.wf ∧ s.hupg.wf ∧ s.hkey.wf ∧ s.accept.wf

/-! ### The receive stream -/

/-- How `RxRead` ends, or that it waits. -/
inductive RxResult where
  | got (bytes : List Byte) (s : State)
  | truncated (s : State)
  | waiting (sofar : List Byte) (s : State)

/-- The next `n` bytes of RX are consumed (20 R71). -/
def takeRx (n : Nat) (s : State) : State := { s with rx := s.rx.drop n, rxPos := s.rxPos + n }

/-- `RxRead(n)` (20 R72 to R74), `sofar` being the bytes this read took before it last waited (log 5). Enough
bytes: it takes them, in order. Else it takes what there is, and waits while RX is open, or raises
`IOTruncated` and discards them when RX has ended or failed. -/
def rxRead (n : Nat) (sofar : List Byte) (s : State) : RxResult :=
  if n - sofar.length ≤ s.rx.length then
    .got (sofar ++ s.rx.take (n - sofar.length)) (takeRx (n - sofar.length) s)
  else if s.rxEnd = .opened then .waiting (sofar ++ s.rx) (takeRx s.rx.length s)
  else .truncated (takeRx s.rx.length s)

/-! ### The transmit stream -/

/-- How `TxWrite` ends, or that it waits with `rest` still to deliver. -/
inductive TxResult where
  | ok (s : State)
  | failed (s : State)
  | waiting (rest : List Byte) (s : State)

/-- The draw of the next `TxWrite`: the stated one, else a free one (20 R76, log 6) of this instance's own
(log 28). -/
def nextDraw (s : State) : TxDraw :=
  match s.txDraws with
  | d :: _ => d
  | [] => Config.freeTxDraw s.cfg.freeSource s.drawCount

/-- Take the next draw. -/
def dropDraw (s : State) : State :=
  match s.txDraws with
  | _ :: ds => { s with txDraws := ds }
  | [] => { s with drawCount := s.drawCount + 1 }

/-- Bytes reach TX, in order (20 R75); each is an event (10 R54). -/
def txAppend (bs : List Byte) (s : State) : State :=
  { s with tx := s.tx ++ bs, events := s.events ++ bs.map Event.sent }

/-- `TxWrite(s)` (20 R75 to R77): complete, in progress, or failed after a prefix, as the draw says. An empty
write is a write and may fail (20 R76). -/
def txWrite (bs : List Byte) (s : State) : TxResult :=
  match nextDraw s with
  | .ok => .ok (txAppend bs (dropDraw s))
  | .fail k => .failed (txAppend (bs.take k) (dropDraw s))
  | .stall k => .waiting (bs.drop k) (txAppend (bs.take k) (dropDraw s))

/-! ### Outcomes, events, errors -/

/-- `Log(e)` (60 R312). -/
def logEvent (e : Status) (s : State) : State := { s with events := s.events ++ [.log e] }

/-- `CloseSession()` (44 R266): `CLOSED`, and an owned stream is released, once. -/
def closeSession (s : State) : State :=
  if s.owned then
    { s with sess := .closed, owned := false, released := true, events := s.events ++ [.release] }
  else { s with sess := .closed }

/-- A command ends with an outcome: `STATUS` is written and `BUSY` falls (10 R26, R30). -/
def complete (e : Status) (s : State) : State := { s with status := e, engine := .idle }

/-- Error entry for a post-upgrade error (60 R313): `STATUS`, then `LOG(e)`, then `CloseSession()`, and control
goes back to the host with `BUSY = 0`. What the failing operation did before stays done. -/
def failSession (e : Status) (s : State) : State := closeSession (logEvent e (complete e s))

/-- A command word the session state does not admit (30 R113, 60 R308): only `STATUS` changes. -/
def illegalState (s : State) : State := { s with status := .illegalState }

/-- A reserved command word (30 R112, 60 R307): only `STATUS` changes. -/
def illegalCommand (s : State) : State := { s with status := .illegalCommand }

/-- After `IOTruncated` the RX registers and `PBUF` hold any value (42 R223): free values (log 7). -/
def clobberRx (s : State) : State :=
  { s with
    rxb0 := Config.freeValue s.cfg.freeSource 8 s.freeCount
    rxb1 := Config.freeValue s.cfg.freeSource 8 (s.freeCount + 1)
    rxplen := Config.freeValue s.cfg.freeSource 32 (s.freeCount + 2)
    rxmkey := Config.freeValue s.cfg.freeSource 32 (s.freeCount + 3)
    pbuf := bufUnwritten s.cfg.freeSource (s.freeCount + 4)
    freeCount := s.freeCount + 5 }

/-! ### Reset -/

/-- The state after reset of an instance that was in state `s` (70 R340, R343): the reset state with the same
parameters. The event history, the inputs still to come, the stated draws, the last read value and the two
counters are the model's own and go on (log 14, log 22). -/
def resetState (s : State) : State :=
  { State.resetWith s.cfg with
    pbuf := bufUnwritten s.cfg.freeSource s.freeCount
    txbuf := bufUnwritten s.cfg.freeSource (s.freeCount + 1)
    hconn := bufUnwritten s.cfg.freeSource (s.freeCount + 2)
    hupg := bufUnwritten s.cfg.freeSource (s.freeCount + 3)
    hkey := bufUnwritten s.cfg.freeSource (s.freeCount + 4)
    events := s.events
    inputs := s.inputs
    txDraws := s.txDraws
    drawCount := s.drawCount
    freeCount := s.freeCount + 5
    hostData := s.hostData }

/-- Reset (70 R341): refused while the instance owns a stream or is busy. -/
def applyReset (s : State) : Result :=
  if s.owned || busy s then .refused .resetWhileActive else .next (resetState s)

end Sys2Proof.Machine
end

