-- ==== Sys2Proof/Machine/Units.lean ====
section
/-! DEFINITION. The length coder (40 R140 to R150) and the mask unit (40 R151 to R156): pure functions. -/

namespace Sys2Proof.Machine

/-- `extLen(LEN7)`, the number of extended length bytes (40 R147). -/
def extLen (len7 : BitVec 7) : Nat :=
  if len7.toNat ≤ 125 then 0 else if len7.toNat = 126 then 2 else 8

/-- `LenDecode(LEN7, ext)` (40 R141): the high 4 bytes of the 64-bit form are discarded unchecked (R144), and
non-minimal forms are accepted (R148). -/
def lenDecode (len7 : BitVec 7) (ext : List Byte) : Word :=
  if len7.toNat ≤ 125 then len7.setWidth 32
  else if len7.toNat = 126 then BitVec.ofNat 32 (fromBE (ext.take 2))
  else BitVec.ofNat 32 (fromBE ((ext.drop 4).take 4))

/-- `LenEncode(n)` (40 R145): header byte 1 with `MASK = 0` and the extended length, in the shortest form. -/
def lenEncode (n : Word) : List Byte :=
  if n.toNat < 126 then [n.setWidth 8]
  else if n.toNat ≤ 0xFFFF then (126 : Byte) :: be16 (n.setWidth 16)
  else [127, 0, 0, 0, 0] ++ be32 n

/-- Masking-key byte `i mod 4`, from the key packed as `RXMKEY` is: key byte 0 in bits [31:24] (10 R38). -/
def keyByte (key : Word) (i : Nat) : Byte := key.extractLsb' (24 - 8 * (i % 4)) 8

/-- `MaskXor` of a sequence whose first byte has payload index `i` (40 R151, R152). -/
def maskFrom (key : Word) (i : Nat) : List Byte → List Byte
  | [] => []
  | b :: bs => (b ^^^ keyByte key i) :: maskFrom key (i + 1) bs

/-- `MaskXor(key, s)` (40 R151): byte `i` is XORed with key byte `i mod 4`, counting from the payload's first
byte (40 R152). -/
def maskXor (key : Word) (s : List Byte) : List Byte := maskFrom key 0 s

end Sys2Proof.Machine
end

