-- ==== Sys2Proof/Machine/Operands.lean ====
section
/-! DEFINITION. The operands: the register map of 10 R22, R23 as the host reads and writes it, the buffers of
10 R40 with their capacities, valid lengths and access, and the register and buffer operands of the commands
(41 R170, 43 R246, R249). -/

namespace Sys2Proof.Machine

/-! ### Registers -/

/-- The value a host read of a register index returns between commands (10 R22, R23), and for `STATE` at any time
(10 R24): `CMD` and the reserved
indices read 0, a narrow register is zero-extended to the port. -/
def readReg (index : Byte) (s : State) : Word :=
  match index.toNat with
  | 0x00 => 0
  | 0x01 => (statusCode s.status).setWidth 32
  | 0x02 => (stateSeen s).setWidth 32
  | 0x03 => s.http.setWidth 32
  | 0x04 => s.rxb0.setWidth 32
  | 0x05 => s.rxb1.setWidth 32
  | 0x06 => s.rxplen
  | 0x07 => s.rxmkey
  | 0x08 => s.txopc.setWidth 32
  | 0x09 => s.txlen
  | 0x0A => s.ccode.setWidth 32
  | 0x0B => s.hconnLen
  | 0x0C => s.hupgLen
  | 0x0D => s.hkeyLen
  | _ => 0

/-- A host write of a register other than `CMD` (10 R22, R23, R39): a register takes the low bits of the value,
as many as it holds (log 2); a read-only register (log 3) and a reserved index ignore the write. -/
def writeReg (index : Byte) (value : Word) (s : State) : State :=
  match index.toNat with
  | 0x08 => { s with txopc := value.setWidth 4 }
  | 0x09 => { s with txlen := value }
  | 0x0A => { s with ccode := value.setWidth 16 }
  | 0x0B => { s with hconnLen := value }
  | 0x0C => { s with hupgLen := value }
  | 0x0D => { s with hkeyLen := value }
  | _ => s

/-! ### Buffers -/

/-- The buffer of a name (10 R40). -/
def getBuf (b : BufName) (s : State) : Buffer :=
  match b with
  | .pbuf => s.pbuf
  | .txbuf => s.txbuf
  | .hconn => s.hconn
  | .hupg => s.hupg
  | .hkey => s.hkey
  | .accept => s.accept

/-- Replace the buffer of a name. -/
def setBuf (b : BufName) (v : Buffer) (s : State) : State :=
  match b with
  | .pbuf => { s with pbuf := v }
  | .txbuf => { s with txbuf := v }
  | .hconn => { s with hconn := v }
  | .hupg => { s with hupg := v }
  | .hkey => { s with hkey := v }
  | .accept => { s with accept := v }

/-- The capacity of a buffer (10 R40). -/
def bufCap (b : BufName) (s : State) : Nat :=
  match b with
  | .pbuf => s.cfg.pbufCap
  | .txbuf => s.cfg.txbufCap
  | .hconn => s.cfg.hdrCap
  | .hupg => s.cfg.hdrCap
  | .hkey => s.cfg.hdrCap
  | .accept => 28

/-- The valid length of a buffer (10 R40); `ACCEPT` has none while `HSOK = 0` (log 9). -/
def bufLen (b : BufName) (s : State) : Nat :=
  match b with
  | .pbuf => s.rxplen.toNat
  | .txbuf => s.txlen.toNat
  | .hconn => s.hconnLen.toNat
  | .hupg => s.hupgLen.toNat
  | .hkey => s.hkeyLen.toNat
  | .accept => if s.hsok then 28 else 0

/-- Whether the host may write a buffer (10 R40, R44). -/
def bufWritable (b : BufName) : Bool :=
  match b with
  | .pbuf => false
  | .txbuf => true
  | .hconn => true
  | .hupg => true
  | .hkey => true
  | .accept => false

/-- The valid bytes of a buffer, `B[0..len)`. -/
def bufValid (b : BufName) (s : State) : List Byte := bufSlice (getBuf b s) 0 (bufLen b s)

/-! ### Operands of the commands -/

/-- `conn`, `upg` and `key` of `HSDERIVE` (41 R170). -/
def headerConn (s : State) : List Byte := bufValid .hconn s
def headerUpg (s : State) : List Byte := bufValid .hupg s
def headerKey (s : State) : List Byte := bufValid .hkey s

/-- A header length above `HDR_CAP` (41 R171). -/
def headersOverCap (s : State) : Bool :=
  decide (s.cfg.hdrCap < s.hconnLen.toNat) || decide (s.cfg.hdrCap < s.hupgLen.toNat) ||
    decide (s.cfg.hdrCap < s.hkeyLen.toNat)

/-- `TXBUF[0..TXLEN)` of `ENCODE` and `ENCCLOSE` (43 R246, R249). -/
def txPayload (s : State) : List Byte := bufValid .txbuf s

/-- `TXLEN` above `TXBUF_CAP` (43 R247). -/
def txlenOverCap (s : State) : Bool := decide (s.cfg.txbufCap < s.txlen.toNat)

/-- The 7 bytes of `"Upgrade"` (41 R172). -/
def upgradeWord : List Byte := [0x55, 0x70, 0x67, 0x72, 0x61, 0x64, 0x65]

/-- The 9 bytes of `"websocket"` (41 R173). -/
def websocketWord : List Byte := [0x77, 0x65, 0x62, 0x73, 0x6f, 0x63, 0x6b, 0x65, 0x74]

/-- `CLOSE_REPLY_REASON`, the 3 bytes of `"bye"` (00 R9). -/
def closeReplyReason : List Byte := [0x62, 0x79, 0x65]

end Sys2Proof.Machine
end

