-- ==== Sys2Proof/Machine/FrameDecode.lean ====
section
/-! DEFINITION. `DecodeFrame` (42 R211 to R226), in the four reads a frame has, each of which may wait and be
taken up again (42 R230, 20 R79). -/

namespace Sys2Proof.Machine

/-- How `DecodeFrame` ends, that it waits in a read, or that it is refused (42 R229). -/
inductive DecResult where
  | frame (opcode : BitVec 4) (payload : List Byte) (s : State)
  | close (s : State)
  | err (e : Status) (s : State)
  | waiting (phase : RxPhase) (got : List Byte) (s : State)
  | overCap

/-- `RXB0` and `RXB1` take the header as received (42 R212). -/
def setHeader (b0 b1 : Byte) (s : State) : State := { s with rxb0 := b0, rxb1 := b1 }

/-- A read ended or failed short: `Err(IOTruncated)` (42 R222, R223). -/
def truncatedFrame (s : State) : DecResult := .err .ioTruncated (clobberRx s)

/-- Step 6 (42 R218): the payload as read, unmasked if `masked`. -/
def unmask (raw : List Byte) (s : State) : List Byte := if headerMasked s.rxb1 then maskXor s.rxmkey raw else raw

/-- The decoded payload and its length are stored (42 R217); bytes of `PBUF` from index `plen` on are not written. -/
def storePayload (plen : Word) (p : List Byte) (s : State) : State :=
  { s with rxplen := plen, pbuf := bufFill s.pbuf 0 p }

/-- Steps 6 and 7 on the payload as read (42 R217 to R220, R224): store it unmasked, then the `fin` test. -/
def finishPayload (plen : Word) (raw : List Byte) (s : State) : DecResult :=
  if headerFin s.rxb0 then .frame (headerOpcode s.rxb0) (unmask raw s) (storePayload plen (unmask raw s) s)
  else .err .fragmentationUnsupported (storePayload plen (unmask raw s) s)

/-- Step 5, the payload (42 R217). -/
def readPayload (plen : Word) (got : List Byte) (s : State) : DecResult :=
  match rxRead plen.toNat got s with
  | .got raw s' => finishPayload plen raw s'
  | .truncated s' => truncatedFrame s'
  | .waiting g s' => .waiting (.pay plen) g s'

/-- `RXMKEY` takes the four key bytes in wire order (42 R216, 10 R38). -/
def setKey (k : List Byte) (s : State) : State := { s with rxmkey := BitVec.ofNat 32 (fromBE k) }

/-- Step 4, the masking key (42 R216). -/
def readKey (plen : Word) (got : List Byte) (s : State) : DecResult :=
  match rxRead 4 got s with
  | .got k s' => readPayload plen [] (setKey k s')
  | .truncated s' => truncatedFrame s'
  | .waiting g s' => .waiting (.key plen) g s'

/-- What follows the extended length: the capacity check (42 R229), then step 4 if `masked`, else step 5. -/
def afterLength (plen : Word) (s : State) : DecResult :=
  if s.cfg.pbufCap < plen.toNat then .overCap
  else if headerMasked s.rxb1 then readKey plen [] s
  else readPayload plen [] s

/-- Step 3, the extended length (42 R215). -/
def readExt (got : List Byte) (s : State) : DecResult :=
  match rxRead (extLen (headerLen7 s.rxb1)) got s with
  | .got ext s' => afterLength (lenDecode (headerLen7 s.rxb1) ext) s'
  | .truncated s' => truncatedFrame s'
  | .waiting g s' => .waiting .ext g s'

/-- What follows the two header bytes: the close sentinel (42 R214, R225), else step 3. -/
def afterHeader (b0 b1 : Byte) (s : State) : DecResult :=
  if headerOpcode b0 = 0x8 then .close { setHeader b0 b1 s with rxplen := 0 }
  else readExt [] (setHeader b0 b1 s)

/-- `DecodeFrame()` (42 R211) from step 1, `got` being the header bytes already taken. -/
def decodeFrame (got : List Byte) (s : State) : DecResult :=
  match rxRead 2 got s with
  | .got h s' => afterHeader (h.getD 0 0) (h.getD 1 0) s'
  | .truncated s' => truncatedFrame s'
  | .waiting g s' => .waiting .hdr g s'

/-- Take `DecodeFrame` up again in the read it waits in (42 R230). -/
def resumeDecode (phase : RxPhase) (got : List Byte) (s : State) : DecResult :=
  match phase with
  | .hdr => decodeFrame got s
  | .ext => readExt got s
  | .key plen => readKey plen got s
  | .pay plen => readPayload plen got s

end Sys2Proof.Machine
end

