-- ==== Sys2Proof/Machine/FrameEncode.lean ====
section
/-! DEFINITION. `EncodeFrame` and `EncodeClose` (43 R240 to R245, R248, R252): two writes, each of which may
wait and be taken up again (20 R77). -/

namespace Sys2Proof.Machine

/-- How `EncodeFrame` ends, or that it waits in a write. -/
inductive EncResult where
  | ok (s : State)
  | ioError (s : State)
  | waiting (job : TxJob) (s : State)

/-- The header of a frame the encoder sends: byte 0 is `0x80 | opcode` (43 R241), then the unmasked length
(43 R242). -/
def encodeHeader (opcode : BitVec 4) (n : Word) : List Byte :=
  ((0x80 : Byte) ||| opcode.setWidth 8) :: lenEncode n

/-- `WPAY` (43 R252): the payload write. -/
def writePayload (rest : List Byte) (s : State) : EncResult :=
  match txWrite rest s with
  | .ok s' => .ok s'
  | .failed s' => .ioError s'
  | .waiting r s' => .waiting (.payload r) s'

/-- `WHDR` (43 R252): the header write, and the payload write only after it has completed (43 R244, R245). -/
def writeHeader (rest payload : List Byte) (s : State) : EncResult :=
  match txWrite rest s with
  | .ok s' => writePayload payload s'
  | .failed s' => .ioError s'
  | .waiting r s' => .waiting (.header r payload) s'

/-- `EncodeFrame(opc, p)` (43 R240). -/
def encodeFrame (opcode : BitVec 4) (payload : List Byte) (s : State) : EncResult :=
  writeHeader (encodeHeader opcode (BitVec.ofNat 32 payload.length)) payload s

/-- `EncodeClose(code, reason)` (43 R248). -/
def encodeClose (code : BitVec 16) (reason : List Byte) (s : State) : EncResult :=
  encodeFrame 0x8 (be16 code ++ reason) s

/-- Take `EncodeFrame` up again in the write it waits in. -/
def resumeEncode (job : TxJob) (s : State) : EncResult :=
  match job with
  | .header rest payload => writeHeader rest payload s
  | .payload rest => writePayload rest s

end Sys2Proof.Machine
end

