-- ==== Sys2Proof/Machine/Codec.lean ====
section
/-! DEFINITION. The meanings of the host-driven codec commands `DECODE` (42 R210), `ENCODE` (43 R246) and
`ENCCLOSE` (43 R249). -/

namespace Sys2Proof.Machine

/-- What `DECODE` does with the result of `DecodeFrame` (42 R210). -/
def finishDecode : DecResult → Result
  | .frame _ _ s => .next (complete .ok s)
  | .close s => .next (complete .closeReceived { s with closeRcvd := true })
  | .err e s => .next (failSession e s)
  | .waiting ph got s => .next { s with engine := .decode ph got }
  | .overCap => .refused .payloadOverCapacity

/-- `DECODE` (42 R210): legal in `OPEN` with `CLOSE_RCVD = 0`. -/
def execDecode (s : State) : Result :=
  if mayDecode s then finishDecode (decodeFrame [] s) else .next (illegalState s)

/-- What `ENCODE` and `ENCCLOSE` do with the result of `EncodeFrame` (43 R246, R249). -/
def finishEncode : EncResult → Result
  | .ok s => .next (complete .ok s)
  | .ioError s => .next (failSession .ioError s)
  | .waiting job s => .next { s with engine := .encode job }

/-- `ENCODE` (43 R246): legal in `OPEN`; the capacity check (R247), then one frame of opcode `TXOPC`. -/
def execEncode (s : State) : Result :=
  if mayEncode s then
    if txlenOverCap s then .refused .txlenOverCapacity
    else finishEncode (encodeFrame s.txopc (txPayload s) s)
  else .next (illegalState s)

/-- `ENCCLOSE` (43 R249): legal in `OPEN`; the capacity check (R247), the length check (R250), then a close
frame with code `CCODE` and reason `TXBUF[0..TXLEN)`. -/
def execEncclose (s : State) : Result :=
  if mayEncode s then
    if txlenOverCap s then .refused .txlenOverCapacity
    else if 4294967293 < s.txlen.toNat then .next { s with status := .lengthUnrepresentable }
    else finishEncode (encodeClose s.ccode (txPayload s) s)
  else .next (illegalState s)

end Sys2Proof.Machine
end

