-- ==== Sys2Proof/Machine/Control.lean ====
section
/-! DEFINITION. The meanings of `NOP`, `TAKEOK`, `TAKEFAIL`, `RELEASE` (44 R263 to R267) and of the reserved
command words (30 R112, 60 R307). -/

namespace Sys2Proof.Machine

/-- `NOP` (44 R263): `STATUS <- OK`, nothing else. -/
def execNop (s : State) : Result := .next { s with status := .ok }

/-- `TAKEOK` (44 R264): legal in `UPG`; the session opens and owns the stream. RX begins with the peer's bytes
after its request (log 13), TX is empty. -/
def execTakeok (s : State) : Result :=
  if s.sess = .upg then
    .next (complete .ok { s with sess := .opened, owned := true, rxPos := 0, tx := [] })
  else .next (illegalState s)

/-- `TAKEFAIL` (44 R265, 60 R303): legal in `UPG`; HTTP 500, `CLOSED`, no event. -/
def execTakefail (s : State) : Result :=
  if s.sess = .upg then .next (complete .streamTakeoverFailure { s with http := 500, sess := .closed })
  else .next (illegalState s)

/-- `RELEASE` (44 R267): legal in `OPEN`; `CloseSession()`, then `STATUS <- OK`. -/
def execRelease (s : State) : Result :=
  if mayEncode s then .next (complete .ok (closeSession s)) else .next (illegalState s)

/-- Reserved words 0x0A and 0x0B (30 R112, 60 R307). -/
def execReservedLowA (_word : Byte) (s : State) : Result := .next (illegalCommand s)

/-- Reserved words 0x0C to 0x0F (30 R112, 60 R307). -/
def execReservedLowC (_word : Byte) (s : State) : Result := .next (illegalCommand s)

/-- Reserved words with `CMD[4] = 1` (30 R112, 60 R307). -/
def execReservedBit4 (_word : Byte) (s : State) : Result := .next (illegalCommand s)

/-- Reserved words with `CMD[5] = 1` (30 R112, 60 R307). -/
def execReservedBit5 (_word : Byte) (s : State) : Result := .next (illegalCommand s)

/-- Reserved words with `CMD[6] = 1` (30 R112, 60 R307). -/
def execReservedBit6 (_word : Byte) (s : State) : Result := .next (illegalCommand s)

/-- Reserved words with `CMD[7] = 1` (30 R112, 60 R307). -/
def execReservedBit7 (_word : Byte) (s : State) : Result := .next (illegalCommand s)

end Sys2Proof.Machine
end

