-- ==== Sys2Proof/Machine/Sha1.lean ====
section
/-! DEFINITION. SHA-1 (41 R179 to R184), which the spec supplies from general knowledge (92 D46, log 24). Its
working state is hidden and exists only while `HSDERIVE` runs (10 R52). -/

namespace Sys2Proof.Machine

/-- The five 32-bit words of the chaining value, and of the round variables (41 R180, R183). -/
structure Sha1State where
  a : Word
  b : Word
  c : Word
  d : Word
  e : Word
deriving DecidableEq, Repr

/-- The initial chaining words (41 R180). -/
def sha1Init : Sha1State where
  a := 0x67452301
  b := 0xEFCDAB89
  c := 0x98BADCFE
  d := 0x10325476
  e := 0xC3D2E1F0

/-- `ROTL_k(x)` (00 R13). -/
def rotl (k : Nat) (x : Word) : Word := (x <<< k) ||| (x >>> (32 - k))

/-- The number `z` of zero bytes the padding of an `l`-byte message holds: the least with
`(l + 1 + z + 8) mod 64 = 0` (41 R179). -/
def sha1Zeros (l : Nat) : Nat := (64 - (l + 9) % 64) % 64

/-- The padded message (41 R179). -/
def sha1Pad (m : List Byte) : List Byte :=
  m ++ (0x80 : Byte) :: (List.replicate (sha1Zeros m.length) 0 ++ be64 (BitVec.ofNat 64 (8 * m.length)))

/-- The 16 big-endian words of a block, in order (41 R181, first line). -/
def sha1Words : List Byte → List Word
  | b0 :: b1 :: b2 :: b3 :: bs => (b0 ++ b1 ++ b2 ++ b3 : BitVec (8 + 8 + 8 + 8)) :: sha1Words bs
  | _ => []

/-- The next word of the schedule from the words so far, newest first (41 R181, second line). -/
def sha1NextWord (ws : List Word) : Word :=
  rotl 1 (ws.getD 2 0 ^^^ ws.getD 7 0 ^^^ ws.getD 13 0 ^^^ ws.getD 15 0)

/-- `n` further words of the schedule, on words kept newest first. -/
def sha1Extend : Nat → List Word → List Word
  | 0, ws => ws
  | n + 1, ws => sha1Extend n (sha1NextWord ws :: ws)

/-- The schedule `W[0..79]` of a block of 64 bytes (41 R181). -/
def sha1Schedule (block : List Byte) : List Word := (sha1Extend 64 (sha1Words block).reverse).reverse

/-- `f_t(b, c, d)` (41 R182). -/
def sha1F (t : Nat) (b c d : Word) : Word :=
  if t ≤ 19 then (b &&& c) ^^^ (~~~b &&& d)
  else if t ≤ 39 then b ^^^ c ^^^ d
  else if t ≤ 59 then (b &&& c) ^^^ (b &&& d) ^^^ (c &&& d)
  else b ^^^ c ^^^ d

/-- `K_t` (41 R182). -/
def sha1K (t : Nat) : Word :=
  if t ≤ 19 then 0x5A827999
  else if t ≤ 39 then 0x6ED9EBA1
  else if t ≤ 59 then 0x8F1BBCDC
  else 0xCA62C1D6

/-- Round `t` with schedule word `w` (41 R183). -/
def sha1Round (t : Nat) (w : Word) (h : Sha1State) : Sha1State where
  a := rotl 5 h.a + sha1F t h.b h.c h.d + h.e + sha1K t + w
  b := h.a
  c := rotl 30 h.b
  d := h.c
  e := h.d

/-- The rounds from `t` on, one per schedule word (41 R183). -/
def sha1Rounds (t : Nat) : List Word → Sha1State → Sha1State
  | [], h => h
  | w :: ws, h => sha1Rounds (t + 1) ws (sha1Round t w h)

/-- Word-wise addition modulo 2^32 of the round variables to the chaining value (41 R183, last line). -/
def sha1Add (h r : Sha1State) : Sha1State where
  a := h.a + r.a
  b := h.b + r.b
  c := h.c + r.c
  d := h.d + r.d
  e := h.e + r.e

/-- One block of the compression (41 R183). -/
def sha1Block (h : Sha1State) (block : List Byte) : Sha1State := sha1Add h (sha1Rounds 0 (sha1Schedule block) h)

/-- The first `n` blocks of a padded message, in order (41 R183). -/
def sha1Blocks : Nat → List Byte → Sha1State → Sha1State
  | 0, _, h => h
  | n + 1, p, h => sha1Blocks n (p.drop 64) (sha1Block h (p.take 64))

/-- The digest of the final chaining value (41 R184). -/
def sha1Digest (h : Sha1State) : List Byte := be32 h.a ++ be32 h.b ++ be32 h.c ++ be32 h.d ++ be32 h.e

/-- `SHA1(M)` (41 R184). -/
def sha1 (m : List Byte) : List Byte :=
  sha1Digest (sha1Blocks ((sha1Pad m).length / 64) (sha1Pad m) sha1Init)

end Sys2Proof.Machine
end

