-- ==== Sys2Proof/Machine/Base64.lean ====
section
/-! DEFINITION. Base64 with padding (41 R185 to R187), which the spec supplies from general knowledge (92 D46,
log 24), and the accept-key formula (41 R177, R178). -/

namespace Sys2Proof.Machine

/-- The ASCII byte of a sextet (41 R185). -/
def base64Char (v : BitVec 6) : Byte :=
  if v.toNat ≤ 25 then BitVec.ofNat 8 (0x41 + v.toNat)
  else if v.toNat ≤ 51 then BitVec.ofNat 8 (0x61 + (v.toNat - 26))
  else if v.toNat ≤ 61 then BitVec.ofNat 8 (0x30 + (v.toNat - 52))
  else if v.toNat = 62 then 0x2B
  else 0x2F

/-- Base64 of a byte sequence: full groups (41 R186), then the final group with its `=` padding (41 R187). -/
def base64 : List Byte → List Byte
  | [] => []
  | [b0] => [base64Char (b0.extractLsb' 2 6), base64Char (b0.extractLsb' 0 2 ++ (0 : BitVec 4)), 0x3D, 0x3D]
  | [b0, b1] =>
    [base64Char (b0.extractLsb' 2 6), base64Char (b0.extractLsb' 0 2 ++ b1.extractLsb' 4 4),
      base64Char (b1.extractLsb' 0 4 ++ (0 : BitVec 2)), 0x3D]
  | b0 :: b1 :: b2 :: bs =>
    base64Char (b0.extractLsb' 2 6) :: base64Char (b0.extractLsb' 0 2 ++ b1.extractLsb' 4 4) ::
      base64Char (b1.extractLsb' 0 4 ++ b2.extractLsb' 6 2) :: base64Char (b2.extractLsb' 0 6) :: base64 bs

/-- `MAGIC_GUID`, the 36 ASCII bytes of 41 R178. -/
def magicGuid : List Byte :=
  [0x32, 0x35, 0x38, 0x45, 0x41, 0x46, 0x41, 0x35, 0x2d, 0x45, 0x39, 0x31, 0x34, 0x2d, 0x34, 0x37, 0x44, 0x41] ++
  [0x2d, 0x39, 0x35, 0x43, 0x41, 0x2d, 0x43, 0x35, 0x41, 0x42, 0x30, 0x44, 0x43, 0x38, 0x35, 0x42, 0x31, 0x31]

/-- `Base64(SHA1(key ++ MAGIC_GUID))` (41 R177). -/
def acceptKey (key : List Byte) : List Byte := base64 (sha1 (key ++ magicGuid))

end Sys2Proof.Machine
end

