-- ==== Sys2Proof/Machine/Handshake.lean ====
section
/-! DEFINITION. The meaning of `HSDERIVE` (41 R170 to R191). -/

namespace Sys2Proof.Machine

/-- Whether the headers ask for an upgrade (41 R172, R173): exact, case-sensitive byte match. -/
def isUpgrade (s : State) : Bool := headerConn s == upgradeWord && headerUpg s == websocketWord

/-- A failed handshake (41 R190): `ACCEPT` unchanged, no event. -/
def failHandshake (e : Status) (s : State) : State :=
  complete e { s with hsok := false, http := 400, sess := .closed }

/-- A successful handshake (41 R189). -/
def acceptHandshake (s : State) : State :=
  complete .ok
    { s with accept := bufFill s.accept 0 (acceptKey (headerKey s)), hsok := true, http := 101, sess := .upg }

/-- `HSDERIVE` (41 R191): the capacity check (R171), the upgrade checks before the key check (R175), then the
accept key. -/
def execHsderive (s : State) : Result :=
  if s.sess = .hs then
    if headersOverCap s then .refused .headerOverCapacity
    else if isUpgrade s = false then .next (failHandshake .notAnUpgradeRequest s)
    else if s.hkeyLen.toNat = 0 then .next (failHandshake .missingHandshakeKey s)
    else .next (acceptHandshake s)
  else .next (illegalState s)

end Sys2Proof.Machine
end

