-- ==== Sys2Proof/Machine/Session.lean ====
section
/-! DEFINITION. The session sequencer: one loop iteration (44 R268 to R271), the meanings of the sixteen frame
opcodes (44 R273 to R280), of `STEP` (44 R268) and `RUN` (44 R272), and how a waiting command goes on when its
stream access can (20 R79, 60 R323). -/

namespace Sys2Proof.Machine

/-! ### One iteration after `DecodeFrame` -/

/-- Where the sequencer is after an iteration that leaves the session `OPEN`: `STEP` is done; `RUN` is at the
next frame boundary (44 R268, R272). -/
def afterIteration : Loop → Engine
  | .step => .idle
  | .run => .frame .run .hdr []

/-- The echo path's outcome (44 R271). -/
def finishEcho (l : Loop) : EncResult → Result
  | .ok s => .next { s with status := .ok, engine := afterIteration l }
  | .ioError s => .next (failSession .ioError s)
  | .waiting job s => .next { s with engine := .echo l job }

/-- The close path's outcome (44 R270): the session closes whether or not the reply was written. -/
def finishReply : EncResult → Result
  | .ok s => .next (closeSession (complete .closeReceived s))
  | .ioError s => .next (failSession .ioError s)
  | .waiting job s => .next { s with engine := .reply job }

/-- The dispatch of a loop iteration on the decode result (44 R268): failure path (R269), close path (R270),
echo path (R271). -/
def finishFrame (l : Loop) : DecResult → Result
  | .frame opcode p s => finishEcho l (encodeFrame opcode p s)
  | .close s => finishReply (encodeClose s.cfg.closeReplyCode closeReplyReason { s with closeRcvd := true })
  | .err e s => .next (failSession e s)
  | .waiting ph got s => .next { s with engine := .frame l ph got }
  | .overCap => .refused .payloadOverCapacity

/-! ### The frame opcodes -/

/-- The loop command whose iteration reads a frame: `RUN` when the sequencer runs it, else `STEP` (log 17). -/
def loopOf (s : State) : Loop :=
  match s.engine with
  | .frame .run _ _ => .run
  | .frame .step _ _ => .step
  | .idle => .step
  | .decode _ _ => .step
  | .encode _ => .step
  | .echo _ _ => .step
  | .reply _ => .step

/-- What a loop iteration does with a frame once its two header bytes are read, for one opcode (44 section 4):
the rest of `DecodeFrame`, then the dispatch. Legal where `STEP` is (44 R261). -/
def runFrame (opcode : BitVec 4) (fin : Bool) (rsv : BitVec 3) (masked : Bool) (len7 : BitVec 7) (s : State) :
    Result :=
  if mayDecode s then
    finishFrame (loopOf s) (afterHeader (headerByte0 fin rsv opcode) (headerByte1 masked len7) s)
  else .next (illegalState s)

/-- Opcode 0x0, continuation (44 R273): echoed; `fin = 0` fails. -/
def execFrameCont (fin : Bool) (rsv : BitVec 3) (masked : Bool) (len7 : BitVec 7) (s : State) : Result :=
  runFrame 0x0 fin rsv masked len7 s

/-- Opcode 0x1, text (44 R274): echoed, not checked for UTF-8. -/
def execFrameText (fin : Bool) (rsv : BitVec 3) (masked : Bool) (len7 : BitVec 7) (s : State) : Result :=
  runFrame 0x1 fin rsv masked len7 s

/-- Opcode 0x2, binary (44 R275): echoed. -/
def execFrameBinary (fin : Bool) (rsv : BitVec 3) (masked : Bool) (len7 : BitVec 7) (s : State) : Result :=
  runFrame 0x2 fin rsv masked len7 s

/-- Opcode 0x3, reserved (44 R276): echoed. -/
def execFrameRsvd3 (fin : Bool) (rsv : BitVec 3) (masked : Bool) (len7 : BitVec 7) (s : State) : Result :=
  runFrame 0x3 fin rsv masked len7 s

/-- Opcode 0x4, reserved (44 R276): echoed. -/
def execFrameRsvd4 (fin : Bool) (rsv : BitVec 3) (masked : Bool) (len7 : BitVec 7) (s : State) : Result :=
  runFrame 0x4 fin rsv masked len7 s

/-- Opcode 0x5, reserved (44 R276): echoed. -/
def execFrameRsvd5 (fin : Bool) (rsv : BitVec 3) (masked : Bool) (len7 : BitVec 7) (s : State) : Result :=
  runFrame 0x5 fin rsv masked len7 s

/-- Opcode 0x6, reserved (44 R276): echoed. -/
def execFrameRsvd6 (fin : Bool) (rsv : BitVec 3) (masked : Bool) (len7 : BitVec 7) (s : State) : Result :=
  runFrame 0x6 fin rsv masked len7 s

/-- Opcode 0x7, reserved (44 R276): echoed. -/
def execFrameRsvd7 (fin : Bool) (rsv : BitVec 3) (masked : Bool) (len7 : BitVec 7) (s : State) : Result :=
  runFrame 0x7 fin rsv masked len7 s

/-- Opcode 0x8, close (44 R277): close path for every `fin`, `MASK`, `LEN7`; the rest of the frame stays unread. -/
def execFrameClose (fin : Bool) (rsv : BitVec 3) (masked : Bool) (len7 : BitVec 7) (s : State) : Result :=
  runFrame 0x8 fin rsv masked len7 s

/-- Opcode 0x9, ping (44 R278): echoed as a ping. -/
def execFramePing (fin : Bool) (rsv : BitVec 3) (masked : Bool) (len7 : BitVec 7) (s : State) : Result :=
  runFrame 0x9 fin rsv masked len7 s

/-- Opcode 0xA, pong (44 R279): echoed. -/
def execFramePong (fin : Bool) (rsv : BitVec 3) (masked : Bool) (len7 : BitVec 7) (s : State) : Result :=
  runFrame 0xA fin rsv masked len7 s

/-- Opcode 0xB, reserved (44 R280): echoed. -/
def execFrameRsvdB (fin : Bool) (rsv : BitVec 3) (masked : Bool) (len7 : BitVec 7) (s : State) : Result :=
  runFrame 0xB fin rsv masked len7 s

/-- Opcode 0xC, reserved (44 R280): echoed. -/
def execFrameRsvdC (fin : Bool) (rsv : BitVec 3) (masked : Bool) (len7 : BitVec 7) (s : State) : Result :=
  runFrame 0xC fin rsv masked len7 s

/-- Opcode 0xD, reserved (44 R280): echoed. -/
def execFrameRsvdD (fin : Bool) (rsv : BitVec 3) (masked : Bool) (len7 : BitVec 7) (s : State) : Result :=
  runFrame 0xD fin rsv masked len7 s

/-- Opcode 0xE, reserved (44 R280): echoed. -/
def execFrameRsvdE (fin : Bool) (rsv : BitVec 3) (masked : Bool) (len7 : BitVec 7) (s : State) : Result :=
  runFrame 0xE fin rsv masked len7 s

/-- Opcode 0xF, reserved (44 R280): echoed. -/
def execFrameRsvdF (fin : Bool) (rsv : BitVec 3) (masked : Bool) (len7 : BitVec 7) (s : State) : Result :=
  runFrame 0xF fin rsv masked len7 s

/-- Dispatch by opcode (44 section 4) on a frame instruction; the decoder gives no other for a header. -/
def dispatchFrame (i : Instr) (s : State) : Result :=
  match i with
  | .frameCont f r m l => execFrameCont f r m l s
  | .frameText f r m l => execFrameText f r m l s
  | .frameBinary f r m l => execFrameBinary f r m l s
  | .frameRsvd3 f r m l => execFrameRsvd3 f r m l s
  | .frameRsvd4 f r m l => execFrameRsvd4 f r m l s
  | .frameRsvd5 f r m l => execFrameRsvd5 f r m l s
  | .frameRsvd6 f r m l => execFrameRsvd6 f r m l s
  | .frameRsvd7 f r m l => execFrameRsvd7 f r m l s
  | .frameClose f r m l => execFrameClose f r m l s
  | .framePing f r m l => execFramePing f r m l s
  | .framePong f r m l => execFramePong f r m l s
  | .frameRsvdB f r m l => execFrameRsvdB f r m l s
  | .frameRsvdC f r m l => execFrameRsvdC f r m l s
  | .frameRsvdD f r m l => execFrameRsvdD f r m l s
  | .frameRsvdE f r m l => execFrameRsvdE f r m l s
  | .frameRsvdF f r m l => execFrameRsvdF f r m l s
  | .nop | .hsderive | .takeok | .takefail | .decode | .encode | .encclose | .step | .run | .release => .next s
  | .reservedLowA _ | .reservedLowC _ | .reservedBit4 _ | .reservedBit5 _ | .reservedBit6 _ | .reservedBit7 _ =>
    .next s

/-! ### The loop -/

/-- The sequencer begins an iteration: it stands before the header of the next frame. -/
def atHeader (l : Loop) (s : State) : State := { s with engine := .frame l .hdr [] }

/-- One loop iteration from the read of the header (42 R211 step 1), `got` being the header bytes already taken:
the header selects the frame instruction, which does the rest. -/
def iterate (l : Loop) (got : List Byte) (s : State) : Result :=
  match rxRead 2 got s with
  | .got h s' => dispatchFrame (decodeFrameHeader (h.getD 0 0) (h.getD 1 0)) (atHeader l s')
  | .truncated s' => finishFrame l (truncatedFrame s')
  | .waiting g s' => finishFrame l (.waiting .hdr g s')

/-- Iterations of `RUN` while it stands at a frame boundary, at most `fuel` of them (44 R272, log 18). -/
def runLoop : Nat → State → Result
  | 0, s => .next s
  | fuel + 1, s =>
    if s.engine = .frame .run .hdr [] then
      match iterate .run [] s with
      | .next s' => runLoop fuel s'
      | .fault r => .fault r
      | .refused r => .refused r
    else .next s

/-- `RUN` goes on as far as the bytes that have arrived allow: every iteration consumes at least two. -/
def keepRunning : Result → Result
  | .next s => runLoop (s.rx.length + 1) s
  | .fault r => .fault r
  | .refused r => .refused r

/-- `STEP` (44 R268): legal in `OPEN` with `CLOSE_RCVD = 0`; one iteration. -/
def execStep (s : State) : Result :=
  if mayDecode s then iterate .step [] s else .next (illegalState s)

/-- `RUN` (44 R272): legal in `OPEN` with `CLOSE_RCVD = 0`; iterations until `CLOSED`. -/
def execRun (s : State) : Result :=
  if mayDecode s then keepRunning (.next (atHeader .run s)) else .next (illegalState s)

/-! ### A waiting command goes on -/

/-- The command that waits in `RxRead` takes up its read again (20 R72, R73; 42 R230). -/
def resumeRead (s : State) : Result :=
  match s.engine with
  | .decode ph got => finishDecode (resumeDecode ph got s)
  | .frame l .hdr got => keepRunning (iterate l got s)
  | .frame l .ext got => keepRunning (finishFrame l (resumeDecode .ext got s))
  | .frame l (.key plen) got => keepRunning (finishFrame l (resumeDecode (.key plen) got s))
  | .frame l (.pay plen) got => keepRunning (finishFrame l (resumeDecode (.pay plen) got s))
  | .idle => .next s
  | .encode _ => .next s
  | .echo _ _ => .next s
  | .reply _ => .next s

/-- The command that waits in `TxWrite` takes up its write again (20 R77; 43 R252). -/
def resumeWrite (s : State) : Result :=
  match s.engine with
  | .encode job => finishEncode (resumeEncode job s)
  | .echo l job => keepRunning (finishEcho l (resumeEncode job s))
  | .reply job => finishReply (resumeEncode job s)
  | .idle => .next s
  | .decode _ _ => .next s
  | .frame _ _ _ => .next s

end Sys2Proof.Machine
end

