-- ==== Sys2Proof/Machine/Dispatch.lean ====
section
/-! DEFINITION. Instruction dispatch: one arm per constructor of Instr. -/

namespace Sys2Proof.Machine

def exec (i : Instr) (s : State) : Host.Outcome State Fault Refusal :=
  match i with
  | .nop => Sys2Proof.Machine.execNop s
  | .hsderive => Sys2Proof.Machine.execHsderive s
  | .takeok => Sys2Proof.Machine.execTakeok s
  | .takefail => Sys2Proof.Machine.execTakefail s
  | .decode => Sys2Proof.Machine.execDecode s
  | .encode => Sys2Proof.Machine.execEncode s
  | .encclose => Sys2Proof.Machine.execEncclose s
  | .step => Sys2Proof.Machine.execStep s
  | .run => Sys2Proof.Machine.execRun s
  | .release => Sys2Proof.Machine.execRelease s
  | .reservedLowA word => Sys2Proof.Machine.execReservedLowA word s
  | .reservedLowC word => Sys2Proof.Machine.execReservedLowC word s
  | .reservedBit4 word => Sys2Proof.Machine.execReservedBit4 word s
  | .reservedBit5 word => Sys2Proof.Machine.execReservedBit5 word s
  | .reservedBit6 word => Sys2Proof.Machine.execReservedBit6 word s
  | .reservedBit7 word => Sys2Proof.Machine.execReservedBit7 word s
  | .frameCont fin rsv masked len7 => Sys2Proof.Machine.execFrameCont fin rsv masked len7 s
  | .frameText fin rsv masked len7 => Sys2Proof.Machine.execFrameText fin rsv masked len7 s
  | .frameBinary fin rsv masked len7 => Sys2Proof.Machine.execFrameBinary fin rsv masked len7 s
  | .frameRsvd3 fin rsv masked len7 => Sys2Proof.Machine.execFrameRsvd3 fin rsv masked len7 s
  | .frameRsvd4 fin rsv masked len7 => Sys2Proof.Machine.execFrameRsvd4 fin rsv masked len7 s
  | .frameRsvd5 fin rsv masked len7 => Sys2Proof.Machine.execFrameRsvd5 fin rsv masked len7 s
  | .frameRsvd6 fin rsv masked len7 => Sys2Proof.Machine.execFrameRsvd6 fin rsv masked len7 s
  | .frameRsvd7 fin rsv masked len7 => Sys2Proof.Machine.execFrameRsvd7 fin rsv masked len7 s
  | .frameClose fin rsv masked len7 => Sys2Proof.Machine.execFrameClose fin rsv masked len7 s
  | .framePing fin rsv masked len7 => Sys2Proof.Machine.execFramePing fin rsv masked len7 s
  | .framePong fin rsv masked len7 => Sys2Proof.Machine.execFramePong fin rsv masked len7 s
  | .frameRsvdB fin rsv masked len7 => Sys2Proof.Machine.execFrameRsvdB fin rsv masked len7 s
  | .frameRsvdC fin rsv masked len7 => Sys2Proof.Machine.execFrameRsvdC fin rsv masked len7 s
  | .frameRsvdD fin rsv masked len7 => Sys2Proof.Machine.execFrameRsvdD fin rsv masked len7 s
  | .frameRsvdE fin rsv masked len7 => Sys2Proof.Machine.execFrameRsvdE fin rsv masked len7 s
  | .frameRsvdF fin rsv masked len7 => Sys2Proof.Machine.execFrameRsvdF fin rsv masked len7 s

end Sys2Proof.Machine
end

