-- ==== Sys2Proof/Machine/HostPort.lean ====
section
/-! DEFINITION. What the outside world does to the instance, but for a write of `CMD`: the host's register and
buffer accesses (10 R22 to R24, R44), the peer's bytes and end of stream (20 R71 to R73), the transport's
progress on a write (20 R76, R77). -/

namespace Sys2Proof.Machine

/-- A host read that "returns any value" (10 R24, R44): a free value, seen only on the port (log 7). All 32 bits
of it are free, whatever the width of what is read (log 29). -/
def readAny (s : State) : State :=
  { s with hostData := Config.freeValue s.cfg.freeSource 32 s.freeCount, freeCount := s.freeCount + 1 }

/-- A host read of a register (10 R22 to R24): while busy, only `STATE` has a value; the
reserved indices and `CMD` are then read as the registers are (log 27). -/
def hostReadReg (index : Byte) (s : State) : Result :=
  if busy s && index != 0x02 then .next (readAny s) else .next { s with hostData := readReg index s }

/-- A host write of a register other than `CMD` (10 R24, 70 R346): refused while busy, a reserved index among them
(log 27). -/
def hostWriteReg (index : Byte) (value : Word) (s : State) : Result :=
  if busy s then .refused .hostWriteWhileBusy else .next (writeReg index value s)

/-- A host read of a buffer byte (10 R44): out of capacity it does not exist; while busy (log 10) or beyond the
valid length it returns any value. A valid byte is zero-extended to the port (log 29). -/
def hostReadBuf (b : BufName) (i : Nat) (s : State) : Result :=
  if bufCap b s ≤ i then .fault .noSuchBufferByte
  else if busy s || decide (bufLen b s ≤ i) then .next (readAny s)
  else .next { s with hostData := (bufGet (getBuf b s) i).setWidth 32 }

/-- A host write of a buffer byte (10 R24, R44). -/
def hostWriteBuf (b : BufName) (i : Nat) (v : Byte) (s : State) : Result :=
  if busy s then .refused .hostWriteWhileBusy
  else if bufWritable b = false then .refused .readOnlyBuffer
  else if bufCap b s ≤ i then .fault .noSuchBufferByte
  else .next (setBuf b (bufSet (getBuf b s) i v) s)

/-- The peer's bytes arrive on an open RX (20 R71, R72) and a read that waits for them goes on. -/
def peerSend (bs : List Byte) (s : State) : Result :=
  if s.rxEnd = .opened then resumeRead { s with rx := s.rx ++ bs } else .next s

/-- RX ends or fails (20 R73), once, and a read that waits goes on. -/
def peerEnd (kind : RxEnd) (s : State) : Result :=
  if s.rxEnd = .opened then resumeRead { s with rxEnd := kind } else .next s

/-- Whether a write is in progress. -/
def inWrite (s : State) : Bool :=
  match s.engine with
  | .encode _ => true
  | .echo _ _ => true
  | .reply _ => true
  | .idle => false
  | .decode _ _ => false
  | .frame _ _ _ => false

/-- The transport reports on the write in progress (20 R76, R77), or, if there is none, its draw is stated for
a later write (log 6). -/
def transport (d : TxDraw) (s : State) : Result :=
  if inWrite s then resumeWrite { s with txDraws := d :: s.txDraws }
  else .next { s with txDraws := s.txDraws ++ [d] }

end Sys2Proof.Machine
end

