-- ==== Sys2Proof/Machine/Step.lean ====
section
/-! DEFINITION. One step: the instance takes the next thing the outside world does (log 1). A host write of
`CMD` while `BUSY = 0` runs the instruction of the word (10 R25). -/

namespace Sys2Proof.Machine

/-- A host write of `CMD` (10 R25, 70 R346): the command word is the low byte of the port's value (log 2). -/
def runCommand (value : Word) (s : State) : Result :=
  if busy s then .refused .hostWriteWhileBusy else exec (decodeCommand (value.setWidth 8)) s

/-- What one input does. -/
def applyInput (i : Input) (s : State) : Result :=
  match i with
  | .writeReg index value => if index = 0x00 then runCommand value s else hostWriteReg index value s
  | .readReg index => hostReadReg index s
  | .writeBuf b i v => hostWriteBuf b i v s
  | .readBuf b i => hostReadBuf b i s
  | .reset => applyReset s
  | .peerSend bs => peerSend bs s
  | .peerEnd kind => peerEnd kind s
  | .transport d => transport d s

/-- One step. With no input to come, nothing happens: the instance waits for a command, or hangs in the access
its command waits in (20 R79, 70 R342, log 23). -/
def step (s : State) : Host.Outcome State Fault Refusal :=
  match s.inputs with
  | [] => .next s
  | i :: rest => applyInput i { s with inputs := rest }

/-- The zero bytes that follow a frame header whose later bits are all 0: extended length, key, payload. -/
def zeroTail (b1 : Byte) : List Byte :=
  let len7 := (b1.extractLsb' 0 7).toNat
  List.replicate
    ((if len7 ≤ 125 then len7 else if len7 = 126 then 2 else 8) + (if b1.getLsbD 7 then 4 else 0)) 0

/-- The state whose next step runs the instruction of bits `w` (log 1, log 15). A command word: an idle
instance, and the host's write of it to `CMD` comes next. A frame (more than 8 bits): an open session in which
`STEP` waits for a header, and the frame's bytes arrive next. -/
def State.withFetchWord (s : State) (nbits w : Nat) : State :=
  if nbits ≤ 8 then
    { s with engine := .idle, inputs := .writeReg 0x00 ((BitVec.ofNat 8 w).setWidth 32) :: s.inputs }
  else
    { s with
      sess := .opened
      owned := true
      closeRcvd := false
      engine := .frame .step .hdr []
      rx := []
      rxEnd := .opened
      inputs :=
        .peerSend (BitVec.ofNat 8 w :: BitVec.ofNat 8 (w / 256) :: zeroTail (BitVec.ofNat 8 (w / 256))) :: s.inputs }

end Sys2Proof.Machine
end

