-- ==== Sys2Proof/Machine/System.lean ====
section
/-! DEFINITION. Several instances (60 R321): a list of `N_INSTANCES` states that share nothing (10 R56), of which
one instance steps at a time, in any order (20 R87). -/

namespace Sys2Proof.Machine

/-- The instances of a system; their number is `N_INSTANCES` (00 R10). -/
structure System where
  instances : List State
deriving DecidableEq, Repr

/-- The system right after reset, one instance per set of parameters (60 R321). Each is given a number of its own,
so that what the spec leaves open in one is free of what it leaves open in another (log 28). -/
def systemReset (cfgs : List Config) : System where
  instances := cfgs.zipIdx.map fun p => State.resetWith { p.1 with freeSource := p.2 }

/-- Instance `k` takes a step; every other instance stays as it is (10 R56, 70 R344). A system in which it
faults or is refused, or that has no instance `k`, has no next state. -/
def stepAt (k : Nat) (sys : System) : Option System :=
  match sys.instances[k]? with
  | none => none
  | some s =>
    match step s with
    | .next s' => some { instances := sys.instances.set k s' }
    | .fault _ => none
    | .refused _ => none

end Sys2Proof.Machine
end

