-- ==== Sys2Proof/Safety.lean ====
section
/-! DEFINITION. What holds of every state a run reaches, in the terms statements use: the session rules of
10 R28 to R34, the hidden position of 10 R50, and the canonical form of the buffers. -/

namespace Sys2Proof.Machine

/-- The session bits agree with the session state: `OWNED` exactly in `OPEN` (10 R29), `RELEASED` only in
`CLOSED` (10 R33), `CLOSE_RCVD` only after the session opened (10 R31), and a session that opened was accepted
(10 R32, 44 R264). -/
def sessionInv (s : State) : Prop :=
  (s.owned = true ↔ s.sess = .opened) ∧
  (s.released = true → s.sess = .closed) ∧
  (s.closeRcvd = true → s.sess = .opened ∨ s.sess = .closed) ∧
  (s.hsok = true ↔ s.http = 101 ∨ s.http = 500) ∧
  (s.sess = .hs → s.http = 0) ∧
  (s.sess = .upg ∨ s.sess = .opened → s.http = 101) ∧
  (s.http = 0 ∨ s.http = 101 ∨ s.http = 400 ∨ s.http = 500)

/-- A command waits only in `OPEN`; one that reads or echoes a frame, only while decoding is legal; the close
reply is written after a close sentinel (44 R261, R270). -/
def engineInv (s : State) : Prop :=
  match s.engine with
  | .idle => True
  | .decode _ _ => s.sess = .opened ∧ s.closeRcvd = false
  | .frame _ _ _ => s.sess = .opened ∧ s.closeRcvd = false
  | .encode _ => s.sess = .opened
  | .echo _ _ => s.sess = .opened ∧ s.closeRcvd = false
  | .reply _ => s.sess = .opened ∧ s.closeRcvd = true

/-- A waiting read has taken fewer bytes than its field holds (10 R50, 42 R230), and a payload it waits for fits
`PBUF` (42 R229). -/
def phaseInv (s : State) (phase : RxPhase) (got : List Byte) : Prop :=
  match phase with
  | .hdr => got.length < 2
  | .ext => got.length < extLen (headerLen7 s.rxb1)
  | .key plen => got.length < 4 ∧ plen.toNat ≤ s.cfg.pbufCap
  | .pay plen => got.length < plen.toNat ∧ plen.toNat ≤ s.cfg.pbufCap

/-- The hidden position of a waiting read is one that `DecodeFrame` can be in. -/
def positionInv (s : State) : Prop :=
  match s.engine with
  | .decode ph got => phaseInv s ph got
  | .frame _ ph got => phaseInv s ph got
  | .idle => True
  | .encode _ => True
  | .echo _ _ => True
  | .reply _ => True

/-- The invariant of a run. -/
def runInv (s : State) : Prop := Memory.wf s ∧ sessionInv s ∧ engineInv s ∧ positionInv s

/-- The transitions of `SESS` other than by reset that 10 R28 calls legal, or none. -/
def sessStepLegal (a b : Sess) : Prop :=
  a = b ∨ (a = .hs ∧ b = .upg) ∨ (a = .hs ∧ b = .closed) ∨ (a = .upg ∧ b = .opened) ∨ (a = .upg ∧ b = .closed) ∨
    (a = .opened ∧ b = .closed)

/-- The number of release events in a history (44 R266, R282). -/
def releases (evs : List Event) : Nat := evs.countP (fun e => e == .release)

/-! ### Terms statements use -/

/-- The session states that admit a command word (44 R261): session state, then `CLOSE_RCVD`. The frame
instructions are dispatched by `STEP` and `RUN`, so they have their row (log 17); a reserved word is not in the
table. -/
def admitted (i : Instr) (sess : Sess) (closeRcvd : Bool) : Bool :=
  match i with
  | .nop => true
  | .hsderive => sess == .hs
  | .takeok => sess == .upg
  | .takefail => sess == .upg
  | .decode => sess == .opened && !closeRcvd
  | .encode => sess == .opened
  | .encclose => sess == .opened
  | .step => sess == .opened && !closeRcvd
  | .run => sess == .opened && !closeRcvd
  | .release => sess == .opened
  | .reservedLowA _ | .reservedLowC _ | .reservedBit4 _ | .reservedBit5 _ | .reservedBit6 _ | .reservedBit7 _ => true
  | .frameCont _ _ _ _ | .frameText _ _ _ _ | .frameBinary _ _ _ _ | .frameRsvd3 _ _ _ _ | .frameRsvd4 _ _ _ _
  | .frameRsvd5 _ _ _ _ | .frameRsvd6 _ _ _ _ | .frameRsvd7 _ _ _ _ | .frameClose _ _ _ _ | .framePing _ _ _ _
  | .framePong _ _ _ _ | .frameRsvdB _ _ _ _ | .frameRsvdC _ _ _ _ | .frameRsvdD _ _ _ _ | .frameRsvdE _ _ _ _
  | .frameRsvdF _ _ _ _ => sess == .opened && !closeRcvd

/-- The bytes of a frame after its two header bytes (30 R103): the extended length, the key if `masked`, and the
payload, masked if `masked`. -/
def frameTail (masked : Bool) (key : Word) (ext payload : List Byte) : List Byte :=
  ext ++ (if masked then be32 key ++ maskXor key payload else payload)

/-- The extended length has the form `LEN7` calls for, says the payload's length, and `PBUF` can hold it. -/
def frameFits (len7 : BitVec 7) (ext payload : List Byte) (cfg : Config) : Prop :=
  ext.length = extLen len7 ∧ (lenDecode len7 ext).toNat = payload.length ∧ payload.length ≤ cfg.pbufCap

/-- What a whole frame of header `b0 b1` leaves in the RX registers, `PBUF` and the stream (42 R220), `n` bytes
of it being consumed and `rest` standing behind it. -/
def decodedFrame (b0 b1 : Byte) (key : Word) (payload rest : List Byte) (n : Nat) (s : State) : State :=
  { s with
    rxb0 := b0
    rxb1 := b1
    rxplen := BitVec.ofNat 32 payload.length
    rxmkey := if headerMasked b1 then key else s.rxmkey
    pbuf := bufFill s.pbuf 0 payload
    rx := rest
    rxPos := s.rxPos + n }

/-- What a sent byte sequence leaves (20 R75, 10 R54), `ds` being the draws not yet taken. -/
def sentBytes (bs : List Byte) (ds : List TxDraw) (s : State) : State :=
  { s with tx := s.tx ++ bs, events := s.events ++ bs.map Event.sent, txDraws := ds }

/-- What the transport's report on a write that stalled after its first `k` bytes makes of that write as a whole
(20 R76, R77; log 6). -/
def drawAfter (k : Nat) : TxDraw → TxDraw
  | .ok => .ok
  | .fail j => .fail (k + j)
  | .stall j => .stall (k + j)

/-- Whether a command waits in `RxRead` (20 R79). -/
def inRead (s : State) : Bool :=
  match s.engine with
  | .decode _ _ => true
  | .frame _ _ _ => true
  | .idle => false
  | .encode _ => false
  | .echo _ _ => false
  | .reply _ => false

/-- The session over after a post-upgrade error of an owned session (60 R313). -/
def sessionOver (e : Status) (s : State) : State :=
  { s with
    status := e, engine := .idle, sess := .closed, owned := false, released := true
    events := s.events ++ [.log e, .release] }

/-- The bytes of RX are too few for the frame that begins there (42 R222): in step 1, in step 3, or in steps 4
and 5, whose payload `PBUF` can hold. -/
def frameCutShort (rx : List Byte) (cfg : Config) : Prop :=
  rx.length < 2 ∨
  ∃ b0 b1 r, rx = b0 :: b1 :: r ∧ headerOpcode b0 ≠ 0x8 ∧
    (r.length < extLen (headerLen7 b1) ∨
      (extLen (headerLen7 b1) ≤ r.length ∧
        (lenDecode (headerLen7 b1) (r.take (extLen (headerLen7 b1)))).toNat ≤ cfg.pbufCap ∧
        r.length < extLen (headerLen7 b1) + (if headerMasked b1 then 4 else 0) +
          (lenDecode (headerLen7 b1) (r.take (extLen (headerLen7 b1)))).toNat))

end Sys2Proof.Machine
end

