-- ==== Sys2Proof/Certificates/Slice0/Obligations.lean ====
section
/-! DEFINITION. The statements for the provers. Each docstring names the rules of spec/ it formalises; a clause
that rests on a choice of the model names its log entry. -/

open Sys2Proof Sys2Proof.Machine

/-! ### Encodings and the step -/

/-- 10 R25: a host write of `CMD` while `BUSY = 0` starts the command its word encodes (the low byte of
the port's value, log 2); `CMD` reads 0x00. -/
def Obligations.StepRunsCommandWord : Prop :=
  (∀ (s : State) (rest : List Input) (v : Word), s.inputs = .writeReg 0x00 v :: rest → busy s = false →
    step s = exec (decodeCommand (v.setWidth 8)) { s with inputs := rest }) ∧
  ∀ s : State, readReg 0x00 s = 0

/-- 42 R211 step 1 with 44 R268: when the bytes that arrive complete the header `STEP` or `RUN` waits for, the
step runs the frame instruction of that header (log 1, log 17); `RUN` then goes on with further iterations. -/
def Obligations.StepRunsFrameHeader : Prop :=
  ∀ (s : State) (l : Loop) (got bs tail : List Byte) (b0 b1 : Byte) (rest : List Input),
    s.inputs = .peerSend bs :: rest → s.rxEnd = .opened → s.engine = .frame l .hdr got → got.length < 2 →
    got ++ s.rx ++ bs = b0 :: b1 :: tail →
    step s = keepRunning (exec (decodeFrameHeader b0 b1)
      { s with inputs := rest, rx := tail, rxPos := s.rxPos + (2 - got.length), engine := .frame l .hdr [] }) ∧
    (l = .step → step s = exec (decodeFrameHeader b0 b1)
      { s with inputs := rest, rx := tail, rxPos := s.rxPos + (2 - got.length), engine := .frame .step .hdr [] })

/-- Decoding the encoding of a well-formed instruction gives it back, whatever follows (30 R101, R102, R111, R112). -/
def Obligations.DecodeOfEncodeIsSame : Prop :=
  ∀ (i : Instr) (rest : List Byte), i.wellFormed = true → decode i.space (encode i ++ rest) = .ok (i, rest)

/-- Every command word and every frame header decodes to a well-formed instruction that encodes back to it: no
bit is dropped, and nothing is rejected (30 R108, R112). -/
def Obligations.EncodeOfDecodeIsSame : Prop :=
  (∀ w : Byte, encode (decodeCommand w) = [w] ∧ (decodeCommand w).wellFormed = true ∧
    (decodeCommand w).space = .command) ∧
  ∀ b0 b1 : Byte, encode (decodeFrameHeader b0 b1) = [b0, b1] ∧ (decodeFrameHeader b0 b1).wellFormed = true ∧
    (decodeFrameHeader b0 b1).space = .frame

/-- Words written out from 30 R111, R112 and headers from 42 R231, 44 R277 and R286 decode to what they stand for. -/
def Obligations.SpecWordsDecode : Prop :=
  decodeCommand 0x00 = .nop ∧ decodeCommand 0x01 = .hsderive ∧ decodeCommand 0x02 = .takeok ∧
  decodeCommand 0x03 = .takefail ∧ decodeCommand 0x04 = .decode ∧ decodeCommand 0x05 = .encode ∧
  decodeCommand 0x06 = .encclose ∧ decodeCommand 0x07 = .step ∧ decodeCommand 0x08 = .run ∧
  decodeCommand 0x09 = .release ∧ decodeCommand 0x0B = .reservedLowA 0x0B ∧ decodeCommand 0x0F = .reservedLowC 0x0F ∧
  decodeCommand 0x1A = .reservedBit4 0x1A ∧ decodeCommand 0x80 = .reservedBit7 0x80 ∧
  decodeFrameHeader 0x81 0x85 = .frameText true 0 true 5 ∧ decodeFrameHeader 0xF1 0x00 = .frameText true 7 false 0 ∧
  decodeFrameHeader 0x82 0x7F = .frameBinary true 0 false 127 ∧ decodeFrameHeader 0x08 0x80 = .frameClose false 0 true 0 ∧
  decodeFrameHeader 0x80 0x00 = .frameCont true 0 false 0 ∧ decodeFrameHeader 0x89 0x80 = .framePing true 0 true 0

/-! ### Reset -/

/-- 70 R340: what reset leaves: every register reads 0, `ACCEPT` holds 28 bytes of 0x00, no command is in
progress and no frame half read or half written, no remainder of a frame stands unread, and no event is emitted. The same
holds of the first reset state. -/
def Obligations.ResetRestoresRegisters : Prop :=
  ∀ (s t : State), (applyReset s = .next t ∨ (t = State.reset ∧ s.events = [])) →
    (∀ index : Byte, readReg index t = 0) ∧ t.status = .ok ∧ t.sess = .hs ∧ t.owned = false ∧ busy t = false ∧
    t.closeRcvd = false ∧ t.hsok = false ∧ t.released = false ∧ t.http = 0 ∧
    (∀ i, i < 28 → bufGet t.accept i = 0) ∧ t.engine = .idle ∧ t.rx = [] ∧ t.events = s.events

/-- 70 R341: reset is applied only when `OWNED = 0` and `BUSY = 0`; otherwise it is refused. -/
def Obligations.ResetOnlyWhenIdle : Prop :=
  ∀ (s : State) (rest : List Input), s.inputs = .reset :: rest →
    (s.owned = false → busy s = false → step s = .next (resetState { s with inputs := rest })) ∧
    (s.owned = true ∨ busy s = true → step s = .refused .resetWhileActive)

/-! ### Session handoff -/

/-- 44 R263: `NOP` writes `STATUS <- OK` in every state, and nothing else. -/
def Obligations.NopWritesStatusOnly : Prop :=
  ∀ s : State, exec .nop s = .next { s with status := .ok }

/-- 44 R264: `TAKEOK` in `UPG` opens the session and takes the stream, TX empty; what has arrived on RX
before stays (log 13). Elsewhere it is `IllegalState`. -/
def Obligations.TakeokOpensSession : Prop :=
  ∀ s : State,
    (s.sess = .upg → exec .takeok s =
      .next { s with status := .ok, engine := .idle, sess := .opened, owned := true, rxPos := 0, tx := [] }) ∧
    (s.sess ≠ .upg → exec .takeok s = .next { s with status := .illegalState })

/-- 44 R265: `TAKEFAIL` in `UPG` gives HTTP 500 and `CLOSED`, with no event; elsewhere it is `IllegalState`. -/
def Obligations.TakefailClosesSession : Prop :=
  ∀ s : State,
    (s.sess = .upg → exec .takefail s =
      .next { s with status := .streamTakeoverFailure, engine := .idle, sess := .closed, http := 500 }) ∧
    (s.sess ≠ .upg → exec .takefail s = .next { s with status := .illegalState })

/-- 44 R266, R267: `RELEASE` in `OPEN` runs `CloseSession` (one release event if the stream is owned) and reports
`OK`; it sends no frame. -/
def Obligations.ReleaseClosesSession : Prop :=
  ∀ s : State, s.sess = .opened →
    (s.owned = true → exec .release s =
      .next { s with
        status := .ok, engine := .idle, sess := .closed, owned := false, released := true
        events := s.events ++ [.release] }) ∧
    (s.owned = false → exec .release s = .next { s with status := .ok, engine := .idle, sess := .closed })

/-- 44 R261, 30 R113: in a state that does not admit a command it writes `STATUS <- IllegalState` and nothing
else; in a state that admits it, it does not report `IllegalState`. A frame instruction is admitted where `STEP` is (log 17). -/
def Obligations.IllegalStateChangesOnlyStatus : Prop :=
  ∀ (i : Instr) (s : State),
    (admitted i s.sess s.closeRcvd = false → exec i s = .next { s with status := .illegalState }) ∧
    ∀ t : State, admitted i s.sess s.closeRcvd = true → s.status ≠ .illegalState → exec i s = .next t →
      t.status ≠ .illegalState

/-- 30 R112, 60 R307: every word from 0x0A to 0xFF writes `STATUS <- IllegalCommand` and nothing else, in every
state; so does every reserved instruction. -/
def Obligations.ReservedWordsAreIllegal : Prop :=
  (∀ (w : Byte) (s : State), 0x0A ≤ w.toNat → exec (decodeCommand w) s = .next { s with status := .illegalCommand }) ∧
  ∀ (w : Byte) (s : State),
    exec (.reservedLowA w) s = .next { s with status := .illegalCommand } ∧
    exec (.reservedLowC w) s = .next { s with status := .illegalCommand } ∧
    exec (.reservedBit4 w) s = .next { s with status := .illegalCommand } ∧
    exec (.reservedBit5 w) s = .next { s with status := .illegalCommand } ∧
    exec (.reservedBit6 w) s = .next { s with status := .illegalCommand } ∧
    exec (.reservedBit7 w) s = .next { s with status := .illegalCommand }

/-! ### The handshake -/

/-- 41 R189, R177: `HSDERIVE` on an upgrade request with a key. -/
def Obligations.HsderiveAcceptsUpgrade : Prop :=
  ∀ s : State, s.sess = .hs → s.hconnLen.toNat ≤ s.cfg.hdrCap → s.hupgLen.toNat ≤ s.cfg.hdrCap →
    s.hkeyLen.toNat ≤ s.cfg.hdrCap → headerConn s = upgradeWord → headerUpg s = websocketWord → headerKey s ≠ [] →
    exec .hsderive s =
      .next { s with
        accept := bufFill s.accept 0 (base64 (sha1 (headerKey s ++ magicGuid)))
        hsok := true, http := 101, sess := .upg, status := .ok, engine := .idle }

/-- 41 R172 to R175, R190: the upgrade checks come before the key check; either failure closes the instance
with HTTP 400, `ACCEPT` and the events unchanged. -/
def Obligations.HsderiveRejectsInOrder : Prop :=
  ∀ s : State, s.sess = .hs → s.hconnLen.toNat ≤ s.cfg.hdrCap → s.hupgLen.toNat ≤ s.cfg.hdrCap →
    s.hkeyLen.toNat ≤ s.cfg.hdrCap →
    (headerConn s ≠ upgradeWord ∨ headerUpg s ≠ websocketWord → exec .hsderive s =
      .next { s with hsok := false, http := 400, sess := .closed, status := .notAnUpgradeRequest, engine := .idle }) ∧
    (headerConn s = upgradeWord → headerUpg s = websocketWord → s.hkeyLen = 0 → exec .hsderive s =
      .next { s with hsok := false, http := 400, sess := .closed, status := .missingHandshakeKey, engine := .idle })

/-- 41 R171, 42 R229, 43 R247: a length above its capacity is refused, in the states that admit the command. -/
def Obligations.CapacityChecksRefuse : Prop :=
  (∀ s : State, s.sess = .hs →
    s.cfg.hdrCap < s.hconnLen.toNat ∨ s.cfg.hdrCap < s.hupgLen.toNat ∨ s.cfg.hdrCap < s.hkeyLen.toNat →
    exec .hsderive s = .refused .headerOverCapacity) ∧
  (∀ s : State, s.sess = .opened → s.cfg.txbufCap < s.txlen.toNat →
    exec .encode s = .refused .txlenOverCapacity ∧ exec .encclose s = .refused .txlenOverCapacity) ∧
  (∀ (s : State) (b0 b1 : Byte) (ext rest : List Byte), s.sess = .opened → s.closeRcvd = false →
    s.rx = b0 :: b1 :: (ext ++ rest) → headerOpcode b0 ≠ 0x8 → ext.length = extLen (headerLen7 b1) →
    s.cfg.pbufCap < (lenDecode (headerLen7 b1) ext).toNat →
    exec .decode s = .refused .payloadOverCapacity ∧ exec .step s = .refused .payloadOverCapacity ∧
    exec .run s = .refused .payloadOverCapacity)

/-- 41 R188: the accept key is 28 ASCII bytes, the last `=`, the one before it a character whose sextet has its
low 2 bits 0. -/
def Obligations.AcceptKeyShape : Prop :=
  ∀ key : List Byte, (base64 (sha1 (key ++ magicGuid))).length = 28 ∧
    (∀ b ∈ base64 (sha1 (key ++ magicGuid)), b.toNat < 128) ∧
    (base64 (sha1 (key ++ magicGuid)))[27]? = some 0x3D ∧
    ∃ v : BitVec 4, (base64 (sha1 (key ++ magicGuid)))[26]? = some (base64Char (v ++ (0 : BitVec 2)))

/-- The source's handshake vector (95 L1-1): key `dGhlIHNhbXBsZSBub25jZQ==`. -/
def Obligations.HandshakeVectorL11 : Prop :=
  base64 (sha1 ([0x64, 0x47, 0x68, 0x6c, 0x49, 0x48, 0x4e, 0x68, 0x62, 0x58, 0x42, 0x73, 0x5a, 0x53, 0x42, 0x75,
      0x62, 0x32, 0x35, 0x6a, 0x5a, 0x51, 0x3d, 0x3d] ++ magicGuid)) =
    [0x73, 0x33, 0x70, 0x50, 0x4c, 0x4d, 0x42, 0x69, 0x54, 0x78, 0x61, 0x51, 0x39, 0x6b, 0x59, 0x47, 0x7a, 0x7a,
      0x68, 0x5a, 0x52, 0x62, 0x4b, 0x2b, 0x78, 0x4f, 0x6f, 0x3d]

/-- 41 R179: the padded message is whole 64-byte blocks, and the number of zero bytes is the least that makes it so. -/
def Obligations.Sha1PaddingFillsBlocks : Prop :=
  ∀ m : List Byte,
    sha1Pad m = m ++ [0x80] ++ List.replicate (sha1Zeros m.length) 0 ++ be64 (BitVec.ofNat 64 (8 * m.length)) ∧
    (sha1Pad m).length % 64 = 0 ∧
    (m.length + 1 + sha1Zeros m.length + 8) % 64 = 0 ∧
    ∀ z : Nat, (m.length + 1 + z + 8) % 64 = 0 → sha1Zeros m.length ≤ z

/-! ### The length coder and the mask unit -/

/-- 40 R149: the round trip of the length code, for every 32-bit length. -/
def Obligations.LengthCodeRoundTrip : Prop :=
  ∀ n : Word, ∃ (b : Byte) (ext : List Byte), lenEncode n = b :: ext ∧ extLen (headerLen7 b) = ext.length ∧
    lenDecode (headerLen7 b) ext = n

/-- 40 R150 and the second sentence of R148: the encoder's length code is unmasked and the shortest of the forms
that hold the length. -/
def Obligations.LengthCodeUnmaskedShortest : Prop :=
  ∀ n : Word, (∃ (b : Byte) (ext : List Byte), lenEncode n = b :: ext ∧ headerMasked b = false) ∧
    ∀ (len7 : BitVec 7) (ext : List Byte), ext.length = extLen len7 → lenDecode len7 ext = n →
      (lenEncode n).length ≤ 1 + ext.length

/-- 40 R151: byte `i` of the result is byte `i` of the operand XORed with key byte `i mod 4`, the key packed as
`RXMKEY` holds it (10 R38). -/
def Obligations.MaskXorIsBytewise : Prop :=
  ∀ (k0 k1 k2 k3 : Byte) (p : List Byte),
    (maskXor (BitVec.ofNat 32 (fromBE [k0, k1, k2, k3])) p).length = p.length ∧
    ∀ i : Nat, (maskXor (BitVec.ofNat 32 (fromBE [k0, k1, k2, k3])) p)[i]? =
      p[i]?.map fun b => b ^^^ [k0, k1, k2, k3].getD (i % 4) 0

/-- 40 R154: masking twice with the same key gives the original; the zero key is the identity. -/
def Obligations.MaskXorIsSelfInverse : Prop :=
  ∀ (key : Word) (p : List Byte), maskXor key (maskXor key p) = p ∧ maskXor 0 p = p

/-! ### Decoding -/

/-- 20 R72 to R74: `RxRead(n)`, begun anew, gives the next `n` bytes in order when they have arrived; else it
waits while RX is open (having taken what arrived, log 5), and raises `IOTruncated` with every byte that arrived consumed
when RX is not; `RxRead(0)` is immediate and consumes nothing. -/
def Obligations.RxReadAllOrNothing : Prop :=
  ∀ (n : Nat) (s : State),
    (∀ a b : List Byte, s.rx = a ++ b → a.length = n →
      rxRead n [] s = .got a { s with rx := b, rxPos := s.rxPos + n }) ∧
    (s.rx.length < n → s.rxEnd = .opened →
      rxRead n [] s = .waiting s.rx { s with rx := [], rxPos := s.rxPos + s.rx.length }) ∧
    (s.rx.length < n → s.rxEnd ≠ .opened →
      rxRead n [] s = .truncated { s with rx := [], rxPos := s.rxPos + s.rx.length }) ∧
    rxRead 0 [] s = .got [] s

/-- 42 R217, R218, R220: `DECODE` of a whole frame with `fin = 1` and an opcode other than close, masked or not,
in any length form. -/
def Obligations.DecodeReturnsFrame : Prop :=
  ∀ (s : State) (b0 b1 : Byte) (key : Word) (ext payload rest : List Byte), s.sess = .opened → s.closeRcvd = false →
    headerOpcode b0 ≠ 0x8 → headerFin b0 = true → frameFits (headerLen7 b1) ext payload s.cfg →
    s.rx = b0 :: b1 :: (frameTail (headerMasked b1) key ext payload ++ rest) →
    exec .decode s =
      .next { decodedFrame b0 b1 key payload rest (2 + (frameTail (headerMasked b1) key ext payload).length) s with
        status := .ok, engine := .idle }

/-- 42 R219, R224, 60 R306: a frame with `fin = 0` is consumed and stored whole, then ends the session. -/
def Obligations.DecodeRejectsFragment : Prop :=
  ∀ (s : State) (b0 b1 : Byte) (key : Word) (ext payload rest : List Byte), s.sess = .opened → s.closeRcvd = false →
    s.owned = true → headerOpcode b0 ≠ 0x8 → headerFin b0 = false → frameFits (headerLen7 b1) ext payload s.cfg →
    s.rx = b0 :: b1 :: (frameTail (headerMasked b1) key ext payload ++ rest) →
    exec .decode s =
      .next (sessionOver .fragmentationUnsupported
        (decodedFrame b0 b1 key payload rest (2 + (frameTail (headerMasked b1) key ext payload).length) s))

/-- 42 R214, R225: the close sentinel consumes the two header bytes only, for every `fin`, `masked` and `LEN7`. -/
def Obligations.DecodeStopsAtClose : Prop :=
  ∀ (s : State) (b0 b1 : Byte) (rest : List Byte), s.sess = .opened → s.closeRcvd = false → headerOpcode b0 = 0x8 →
    s.rx = b0 :: b1 :: rest →
    exec .decode s =
      .next { s with
        rxb0 := b0, rxb1 := b1, rxplen := 0, rx := rest, rxPos := s.rxPos + 2, closeRcvd := true
        status := .closeReceived, engine := .idle }

/-- 42 R222, 44 R269, 60 R304, R313: RX has ended or failed inside a frame or before one: `DECODE`, `STEP` and `RUN`
consume what there is, log, close the session and release the stream; TX is untouched. What the RX registers and `PBUF`
then hold is not stated (42 R223). -/
def Obligations.DecodeTruncatedCloses : Prop :=
  ∀ (i : Instr) (s : State), i ∈ [Instr.decode, Instr.step, Instr.run] → s.sess = .opened → s.closeRcvd = false →
    s.owned = true → s.rxEnd ≠ .opened → frameCutShort s.rx s.cfg →
    ∃ t : State, exec i s = .next t ∧
      t = { s with
        rxb0 := t.rxb0, rxb1 := t.rxb1, rxplen := t.rxplen, rxmkey := t.rxmkey, pbuf := t.pbuf
        freeCount := t.freeCount, rx := [], rxPos := s.rxPos + s.rx.length
        status := .ioTruncated, engine := .idle, sess := .closed, owned := false, released := true
        events := s.events ++ [.log .ioTruncated, .release] }

/-- 20 R72, R73, R79, 10 R30, 60 R323: RX is open and its bytes are too few: `DECODE`, `STEP` and `RUN` wait with
`BUSY = 1` (log 4), having taken them (log 5); no event is emitted and `STATUS` is not written. When RX ends or fails while
one of them waits so, or when it has ended before a frame instruction has its whole frame (log 17), the error is
`IOTruncated`, logged, then the stream is released. -/
def Obligations.DecodeWaitsForBytes : Prop :=
  (∀ (i : Instr) (s : State), i ∈ [Instr.decode, Instr.step, Instr.run] → s.sess = .opened → s.closeRcvd = false →
    s.rxEnd = .opened → frameCutShort s.rx s.cfg →
    ∃ t : State, exec i s = .next t ∧ busy t = true ∧
      t = { s with
        rxb0 := t.rxb0, rxb1 := t.rxb1, rxmkey := t.rxmkey, rx := [], rxPos := s.rxPos + s.rx.length
        engine := t.engine }) ∧
  (∀ (s : State) (rest : List Input) (kind : RxEnd) (ph : RxPhase) (got : List Byte), runInv s →
    s.engine = .decode ph got ∨ s.engine = .frame .step ph got ∨ s.engine = .frame .run ph got →
    s.rx = [] → s.rxEnd = .opened → kind ≠ .opened → s.inputs = .peerEnd kind :: rest →
    ∃ t : State, step s = .next t ∧
      t = { s with
        rxb0 := t.rxb0, rxb1 := t.rxb1, rxplen := t.rxplen, rxmkey := t.rxmkey, pbuf := t.pbuf
        freeCount := t.freeCount, inputs := rest, rxEnd := kind
        status := .ioTruncated, engine := .idle, sess := .closed, owned := false, released := true
        events := s.events ++ [.log .ioTruncated, .release] }) ∧
  ∀ (s : State) (b0 b1 : Byte), s.sess = .opened → s.closeRcvd = false → s.owned = true → s.rxEnd ≠ .opened →
    frameCutShort (b0 :: b1 :: s.rx) s.cfg →
    ∃ t : State, exec (decodeFrameHeader b0 b1) s = .next t ∧
      t = { s with
        rxb0 := t.rxb0, rxb1 := t.rxb1, rxplen := t.rxplen, rxmkey := t.rxmkey, pbuf := t.pbuf
        freeCount := t.freeCount, rx := [], rxPos := s.rxPos + s.rx.length
        status := .ioTruncated, engine := .idle, sess := .closed, owned := false, released := true
        events := s.events ++ [.log .ioTruncated, .release] }

/-- 42 R230 with 20 R72, R79, 60 R323: how the peer's bytes are cut into arrivals makes no difference (log 5, log 18).
Bytes that arrive in two parts leave, whatever command waits for them, exactly what they leave when they arrive at once. And
a `DECODE`, `STEP`, `RUN` or frame instruction (log 17) that waited for bytes ends, when they arrive, exactly as one that
found them there. A step that takes an arrival does this. -/
def Obligations.ChunkingIsIrrelevant : Prop :=
  (∀ (s t : State) (as bs : List Byte), runInv s → peerSend as s = .next t → peerSend bs t = peerSend (as ++ bs) s) ∧
  (∀ (i : Instr) (s t : State) (bs : List Byte), i ∈ [Instr.decode, Instr.step, Instr.run] ∨ i.space = .frame →
    busy s = false → exec i s = .next t → inRead t = true → peerSend bs t = exec i { s with rx := s.rx ++ bs }) ∧
  ∀ (s : State) (bs : List Byte) (rest : List Input), s.inputs = .peerSend bs :: rest →
    step s = peerSend bs { s with inputs := rest }

/-! ### Encoding -/

/-- 43 R240, R241, R244, R246, R251: `ENCODE` with both writes succeeding (two draws, log 6) sends the header, then
the payload. -/
def Obligations.EncodeSendsFrame : Prop :=
  ∀ (s : State) (ds : List TxDraw), s.sess = .opened → s.txlen.toNat ≤ s.cfg.txbufCap →
    s.txDraws = .ok :: .ok :: ds →
    exec .encode s =
      .next { sentBytes ((((0x80 : Byte) ||| s.txopc.setWidth 8) :: lenEncode s.txlen) ++ txPayload s) ds s with
        status := .ok, engine := .idle } ∧
    (((0x80 : Byte) ||| s.txopc.setWidth 8) :: lenEncode s.txlen ++ txPayload s).length =
      (if s.txlen.toNat < 126 then 2 else if s.txlen.toNat ≤ 0xFFFF then 4 else 10) + s.txlen.toNat

/-- 43 R248, R249: `ENCCLOSE` sends a frame of opcode 0x8 whose payload is the code and the reason, and does not
close the session (two draws, log 6). -/
def Obligations.EnccloseSendsCloseFrame : Prop :=
  ∀ (s : State) (ds : List TxDraw), s.sess = .opened → s.txlen.toNat ≤ s.cfg.txbufCap →
    s.txlen.toNat ≤ 4294967293 → s.txDraws = .ok :: .ok :: ds →
    exec .encclose s =
      .next { sentBytes (((0x88 : Byte) :: lenEncode (s.txlen + 2)) ++ (be16 s.ccode ++ txPayload s)) ds s with
        status := .ok, engine := .idle }

/-- 43 R250, 60 R309: a close payload of 2^32 bytes or more is not sent; only `STATUS` changes. -/
def Obligations.EnccloseTooLong : Prop :=
  ∀ s : State, s.sess = .opened → s.txlen.toNat ≤ s.cfg.txbufCap → 4294967293 < s.txlen.toNat →
    exec .encclose s = .next { s with status := .lengthUnrepresentable }

/-- 43 R245, R246, R249, 60 R305, R313: the header write of `ENCODE` or `ENCCLOSE` fails after `k` bytes, or the payload
write does: TX holds that prefix, and the session ends with `IOError` (draws of log 6). -/
def Obligations.EncodeWriteFailureCloses : Prop :=
  ∀ (s : State) (k : Nat) (ds : List TxDraw), s.sess = .opened → s.owned = true →
    s.txlen.toNat ≤ s.cfg.txbufCap →
    (s.txDraws = .fail k :: ds → exec .encode s =
      .next (sessionOver .ioError
        (sentBytes ((((0x80 : Byte) ||| s.txopc.setWidth 8) :: lenEncode s.txlen).take k) ds s))) ∧
    (s.txDraws = .ok :: .fail k :: ds → exec .encode s =
      .next (sessionOver .ioError
        (sentBytes ((((0x80 : Byte) ||| s.txopc.setWidth 8) :: lenEncode s.txlen) ++ (txPayload s).take k) ds s))) ∧
    (s.txlen.toNat ≤ 4294967293 → s.txDraws = .fail k :: ds → exec .encclose s =
      .next (sessionOver .ioError (sentBytes (((0x88 : Byte) :: lenEncode (s.txlen + 2)).take k) ds s))) ∧
    (s.txlen.toNat ≤ 4294967293 → s.txDraws = .ok :: .fail k :: ds → exec .encclose s =
      .next (sessionOver .ioError
        (sentBytes (((0x88 : Byte) :: lenEncode (s.txlen + 2)) ++ (be16 s.ccode ++ txPayload s).take k) ds s)))

/-- 20 R77, 43 R245, R252, 60 R323: a write of `ENCODE`, of `ENCCLOSE`, or of a reply of `STEP` or `RUN`, header or payload,
that is in progress keeps `BUSY = 1` (log 4). When the transport reports on it, the command answers exactly what it answers
when that write as a whole goes so: completes, fails after the bytes of both parts, or stalls further (log 6). This holds
of every instruction, of every write it makes, and a step that takes the report does this. -/
def Obligations.StalledEncodeCompletes : Prop :=
  (∀ (i : Instr) (s : State) (k : Nat) (ds : List TxDraw), i ∈ [Instr.encode, Instr.encclose] → s.sess = .opened →
    s.txlen.toNat ≤ s.cfg.txbufCap → (i = .encclose → s.txlen.toNat ≤ 4294967293) →
    s.txDraws = .stall k :: ds ∨ s.txDraws = .ok :: .stall k :: ds →
    ∃ t : State, exec i s = .next t ∧ inWrite t = true ∧ busy t = true ∧ t.txDraws = ds) ∧
  (∀ (i : Instr) (s : State) (b0 b1 : Byte) (key : Word) (ext payload rest : List Byte) (k : Nat) (ds : List TxDraw),
    i ∈ [Instr.step, Instr.run] → s.sess = .opened → s.closeRcvd = false →
    (headerOpcode b0 ≠ 0x8 ∧ headerFin b0 = true ∧ frameFits (headerLen7 b1) ext payload s.cfg ∧
        s.rx = b0 :: b1 :: (frameTail (headerMasked b1) key ext payload ++ rest)) ∨
      (headerOpcode b0 = 0x8 ∧ s.rx = b0 :: b1 :: rest) →
    s.txDraws = .stall k :: ds ∨ s.txDraws = .ok :: .stall k :: ds →
    ∃ t : State, exec i s = .next t ∧ inWrite t = true ∧ busy t = true ∧ t.txDraws = ds) ∧
  (∀ (i : Instr) (s t : State) (pre ds : List TxDraw) (k : Nat) (d : TxDraw), (i.space = .frame → busy s = false) →
    s.txDraws = pre ++ .stall k :: ds → exec i s = .next t → inWrite t = true → t.txDraws = ds →
    transport d t = exec i { s with txDraws := pre ++ drawAfter k d :: ds }) ∧
  ∀ (s : State) (d : TxDraw) (rest : List Input), s.inputs = .transport d :: rest →
    step s = transport d { s with inputs := rest }

/-- 42 R220 on what 43 R240 sends: the bytes the encoder sends for an opcode other than close decode to that
opcode and payload, with nothing left over and nothing of what follows consumed. -/
def Obligations.EncodedFrameDecodesBack : Prop :=
  ∀ (s : State) (opcode : BitVec 4) (payload rest : List Byte), s.sess = .opened → s.closeRcvd = false → opcode ≠ 0x8 →
    payload.length < 4294967296 → payload.length ≤ s.cfg.pbufCap →
    s.rx = encodeHeader opcode (BitVec.ofNat 32 payload.length) ++ (payload ++ rest) →
    ∃ t : State, exec .decode s = .next t ∧ t.status = .ok ∧ t.sess = .opened ∧ t.rx = rest ∧
      headerOpcode t.rxb0 = opcode ∧ headerFin t.rxb0 = true ∧ headerRsv t.rxb0 = 0 ∧ headerMasked t.rxb1 = false ∧
      t.rxplen.toNat = payload.length ∧ t.pbuf = bufFill s.pbuf 0 payload ∧ t.rxmkey = s.rxmkey

/-! ### The session sequencer -/

/-- 44 R268, R271: `STEP` on a whole frame with `fin = 1`, not close: it is decoded, and echoed with its opcode and
unmasked payload, unmasked and in the shortest length form (two draws, log 6). -/
def Obligations.StepEchoesFrame : Prop :=
  ∀ (s : State) (b0 b1 : Byte) (key : Word) (ext payload rest : List Byte) (ds : List TxDraw),
    s.sess = .opened → s.closeRcvd = false → headerOpcode b0 ≠ 0x8 → headerFin b0 = true →
    frameFits (headerLen7 b1) ext payload s.cfg →
    s.rx = b0 :: b1 :: (frameTail (headerMasked b1) key ext payload ++ rest) → s.txDraws = .ok :: .ok :: ds →
    exec .step s =
      .next { sentBytes (encodeHeader (headerOpcode b0) (BitVec.ofNat 32 payload.length) ++ payload) ds
          (decodedFrame b0 b1 key payload rest (2 + (frameTail (headerMasked b1) key ext payload).length) s) with
        status := .ok, engine := .idle }

/-- 44 R273 to R276, R278 to R280: each of the fifteen frame opcodes other than close (`frameCont`, `frameText`,
`frameBinary`, `frameRsvd3` to `frameRsvd7`, `framePing`, `framePong`, `frameRsvdB` to `frameRsvdF`), its header already
read, with `fin = 1`: the echo path. `STEP` is then done, `RUN` at the next frame (log 17; draws of log 6). -/
def Obligations.DataFrameOpcodesEcho : Prop :=
  ∀ (i : Instr) (opcode : BitVec 4) (rsv : BitVec 3) (masked : Bool) (len7 : BitVec 7),
    (opcode, i) ∈ [((0x0 : BitVec 4), Instr.frameCont true rsv masked len7), (0x1, .frameText true rsv masked len7),
      (0x2, .frameBinary true rsv masked len7), (0x3, .frameRsvd3 true rsv masked len7),
      (0x4, .frameRsvd4 true rsv masked len7), (0x5, .frameRsvd5 true rsv masked len7),
      (0x6, .frameRsvd6 true rsv masked len7), (0x7, .frameRsvd7 true rsv masked len7),
      (0x9, .framePing true rsv masked len7), (0xA, .framePong true rsv masked len7),
      (0xB, .frameRsvdB true rsv masked len7), (0xC, .frameRsvdC true rsv masked len7),
      (0xD, .frameRsvdD true rsv masked len7), (0xE, .frameRsvdE true rsv masked len7),
      (0xF, .frameRsvdF true rsv masked len7)] →
    ∀ (s : State) (key : Word) (ext payload rest : List Byte) (ds : List TxDraw), s.sess = .opened →
      s.closeRcvd = false → frameFits len7 ext payload s.cfg → s.rx = frameTail masked key ext payload ++ rest →
      s.txDraws = .ok :: .ok :: ds →
      exec i s =
        .next { sentBytes (encodeHeader opcode (BitVec.ofNat 32 payload.length) ++ payload) ds
            (decodedFrame (headerByte0 true rsv opcode) (headerByte1 masked len7) key payload rest
              (frameTail masked key ext payload).length s) with
          status := .ok, engine := afterIteration (loopOf s) }

/-- 44 R270, R277, R272: `STEP` and `RUN` on a close frame: two bytes are consumed, the close reply with
`CLOSE_REPLY_CODE` and `bye` is sent (two draws, log 6), the session closes and the stream is released. -/
def Obligations.StepAndRunAnswerClose : Prop :=
  ∀ (i : Instr) (s : State) (b0 b1 : Byte) (rest : List Byte) (ds : List TxDraw), i ∈ [Instr.step, Instr.run] →
    s.sess = .opened → s.closeRcvd = false → s.owned = true → headerOpcode b0 = 0x8 → s.rx = b0 :: b1 :: rest →
    s.txDraws = .ok :: .ok :: ds →
    exec i s =
      .next { s with
        rxb0 := b0, rxb1 := b1, rxplen := 0, rx := rest, rxPos := s.rxPos + 2, closeRcvd := true
        status := .closeReceived, engine := .idle, sess := .closed, owned := false, released := true
        tx := s.tx ++ ([0x88, 0x05] ++ be16 s.cfg.closeReplyCode ++ [0x62, 0x79, 0x65])
        events := s.events ++
          ([0x88, 0x05] ++ be16 s.cfg.closeReplyCode ++ [0x62, 0x79, 0x65]).map Event.sent ++ [.release]
        txDraws := ds }

/-- 44 R277, R270: the frame opcode close, its header already read: nothing more is read, whatever `fin`, RSV,
`MASK` and `LEN7` (log 17; draws of log 6). -/
def Obligations.CloseFrameReplies : Prop :=
  ∀ (s : State) (fin : Bool) (rsv : BitVec 3) (masked : Bool) (len7 : BitVec 7) (ds : List TxDraw),
    s.sess = .opened → s.closeRcvd = false → s.owned = true → s.txDraws = .ok :: .ok :: ds →
    exec (.frameClose fin rsv masked len7) s =
      .next { s with
        rxb0 := headerByte0 fin rsv 0x8, rxb1 := headerByte1 masked len7, rxplen := 0, closeRcvd := true
        status := .closeReceived, engine := .idle, sess := .closed, owned := false, released := true
        tx := s.tx ++ ([0x88, 0x05] ++ be16 s.cfg.closeReplyCode ++ [0x62, 0x79, 0x65])
        events := s.events ++
          ([0x88, 0x05] ++ be16 s.cfg.closeReplyCode ++ [0x62, 0x79, 0x65]).map Event.sent ++ [.release]
        txDraws := ds }

/-- 44 R269, 42 R219: every frame opcode other than close with `fin = 0`, and `STEP` on such a frame: the frame is
consumed, no byte is sent, the error is logged, then the stream is released (log 17). -/
def Obligations.FragmentEndsSession : Prop :=
  ∀ (s : State) (opcode : BitVec 4) (rsv : BitVec 3) (masked : Bool) (len7 : BitVec 7) (key : Word)
    (ext payload rest : List Byte),
    s.sess = .opened → s.closeRcvd = false → s.owned = true → opcode ≠ 0x8 → frameFits len7 ext payload s.cfg →
    (s.rx = frameTail masked key ext payload ++ rest →
      exec (frameOf opcode false rsv masked len7) s =
        .next (sessionOver .fragmentationUnsupported
          (decodedFrame (headerByte0 false rsv opcode) (headerByte1 masked len7) key payload rest
            (frameTail masked key ext payload).length s))) ∧
    (s.rx = headerByte0 false rsv opcode :: headerByte1 masked len7 :: (frameTail masked key ext payload ++ rest) →
      exec .step s =
        .next (sessionOver .fragmentationUnsupported
          (decodedFrame (headerByte0 false rsv opcode) (headerByte1 masked len7) key payload rest
            (2 + (frameTail masked key ext payload).length) s)))

/-- 44 R270, R271, 43 R245, 60 R305: a reply of `STEP` or `RUN` whose header write fails after `k` bytes, or whose payload
write does, ends the session with `IOError`: an echo, and a close reply, which has set `CLOSE_RCVD` (draws of log 6). -/
def Obligations.FailedReplyCloses : Prop :=
  ∀ (i : Instr) (s : State) (b0 b1 : Byte) (key : Word) (ext payload rest : List Byte) (k : Nat) (ds : List TxDraw),
    i ∈ [Instr.step, Instr.run] → s.sess = .opened → s.closeRcvd = false → s.owned = true →
    (headerOpcode b0 ≠ 0x8 → headerFin b0 = true → frameFits (headerLen7 b1) ext payload s.cfg →
      s.rx = b0 :: b1 :: (frameTail (headerMasked b1) key ext payload ++ rest) →
      (s.txDraws = .fail k :: ds → exec i s = .next (sessionOver .ioError
        (sentBytes ((encodeHeader (headerOpcode b0) (BitVec.ofNat 32 payload.length)).take k) ds
          (decodedFrame b0 b1 key payload rest (2 + (frameTail (headerMasked b1) key ext payload).length) s)))) ∧
      (s.txDraws = .ok :: .fail k :: ds → exec i s = .next (sessionOver .ioError
        (sentBytes (encodeHeader (headerOpcode b0) (BitVec.ofNat 32 payload.length) ++ payload.take k) ds
          (decodedFrame b0 b1 key payload rest (2 + (frameTail (headerMasked b1) key ext payload).length) s))))) ∧
    (headerOpcode b0 = 0x8 → s.rx = b0 :: b1 :: rest →
      (s.txDraws = .fail k :: ds → exec i s = .next (sessionOver .ioError
        (sentBytes (([0x88, 0x05] : List Byte).take k) ds
          { s with rxb0 := b0, rxb1 := b1, rxplen := 0, rx := rest, rxPos := s.rxPos + 2, closeRcvd := true }))) ∧
      (s.txDraws = .ok :: .fail k :: ds → exec i s = .next (sessionOver .ioError
        (sentBytes ([0x88, 0x05] ++ (be16 s.cfg.closeReplyCode ++ [0x62, 0x79, 0x65]).take k) ds
          { s with rxb0 := b0, rxb1 := b1, rxplen := 0, rx := rest, rxPos := s.rxPos + 2, closeRcvd := true }))))

/-- 44 R272: `RUN` repeats the body of `STEP` until the session is `CLOSED`: after an iteration that closed it
`RUN` is done with the same result, after one that did not it goes on (log 18). -/
def Obligations.RunUnfoldsToStep : Prop :=
  ∀ s t : State, s.sess = .opened → s.closeRcvd = false → exec .step s = .next t → busy t = false →
    (t.sess = .closed → exec .run s = .next t) ∧ (t.sess = .opened → exec .run s = exec .run t)

/-- 44 R272, 20 R79: a `RUN` that is no longer busy (log 4) has closed the session. -/
def Obligations.RunEndsOnlyClosed : Prop :=
  ∀ s t : State, s.sess = .opened → s.closeRcvd = false → exec .run s = .next t → busy t = true ∨ t.sess = .closed

/-! ### Invariants and whole-machine rules -/

/-- The invariant holds after reset (70 R340), whatever the parameters. -/
def Obligations.InvAfterReset : Prop :=
  runInv State.reset ∧ ∀ cfg : Config, runInv (State.resetWith cfg)

/-- Every step keeps the invariant: the canonical form of the buffers, the session rules of 10 R29 to R34 and the
hidden position of 10 R50; and no step writes the parameters (00 R10, log 12). -/
def Obligations.StepKeepsInv : Prop :=
  ∀ s t : State, runInv s → step s = .next t → runInv t ∧ t.cfg = s.cfg

/-- 10 R28: the codes of `SESS`, and its only transitions; by reset any state goes to `HS`. -/
def Obligations.SessTransitionsAreLegal : Prop :=
  (sessCode .hs = 0 ∧ sessCode .upg = 1 ∧ sessCode .opened = 2 ∧ sessCode .closed = 3) ∧
  ∀ s t : State, step s = .next t →
    (s.inputs.head? ≠ some .reset → sessStepLegal s.sess t.sess) ∧ (s.inputs.head? = some .reset → t.sess = .hs)

/-- 44 R281: in `CLOSED` every command but `NOP` is `IllegalState`, only reset leaves it, and RX is never read nor
TX written again, nor any event emitted. -/
def Obligations.ClosedIsTerminal : Prop :=
  (∀ (s : State) (i : Instr), s.sess = .closed →
    i ∈ [Instr.hsderive, .takeok, .takefail, .decode, .encode, .encclose, .step, .run, .release] →
    exec i s = .next { s with status := .illegalState }) ∧
  ∀ s t : State, s.sess = .closed → busy s = false → s.inputs.head? ≠ some .reset → step s = .next t →
    t.sess = .closed ∧ t.rxPos = s.rxPos ∧ t.tx = s.tx ∧ t.events = s.events ∧ t.released = s.released ∧ busy t = false

/-- 44 R282, 10 R33: events are only appended, and a step emits exactly one release event if it takes the session
from `OPEN` to another state, none otherwise. -/
def Obligations.ReleasedExactlyOnce : Prop :=
  ∀ s t : State, runInv s → step s = .next t →
    ∃ evs : List Event, t.events = s.events ++ evs ∧
      releases evs = if s.sess = .opened ∧ t.sess ≠ .opened then 1 else 0

/-- 60 R312, R313: a step logs only `IOTruncated`, `IOError` or `FragmentationUnsupported`, at most once, as the
last event but the release that follows it, and `STATUS` then holds that code. -/
def Obligations.LogsArePostUpgradeErrors : Prop :=
  ∀ (s t : State) (evs : List Event) (e : Status), runInv s → step s = .next t → t.events = s.events ++ evs →
    Event.log e ∈ evs →
    e ∈ [Status.ioTruncated, .ioError, .fragmentationUnsupported] ∧ t.status = e ∧
    ∃ pre : List Event, evs = pre ++ [.log e, .release] ∧ ∀ e' : Status, Event.log e' ∉ pre

/-- 60 R317: what the peer sends, or ends, reaches no operand register, no header or transmit buffer, no
`ACCEPT` and no `HTTP`; while no command runs it changes nothing but the stream. -/
def Obligations.PeerReachesNoOperand : Prop :=
  ∀ (s t : State) (i : Input) (rest : List Input), (∃ bs, i = .peerSend bs) ∨ (∃ kind, i = .peerEnd kind) →
    s.inputs = i :: rest → step s = .next t →
    (t.txopc = s.txopc ∧ t.txlen = s.txlen ∧ t.ccode = s.ccode ∧ t.hconnLen = s.hconnLen ∧ t.hupgLen = s.hupgLen ∧
      t.hkeyLen = s.hkeyLen ∧ t.txbuf = s.txbuf ∧ t.hconn = s.hconn ∧ t.hupg = s.hupg ∧ t.hkey = s.hkey ∧
      t.accept = s.accept ∧ t.http = s.http ∧ t.hsok = s.hsok ∧ t.cfg = s.cfg ∧ t.inputs = rest) ∧
    (busy s = false → t = { s with inputs := rest, rx := t.rx, rxEnd := t.rxEnd })

/-! ### The host's port -/

/-- 10 R23, R39: a reserved index reads 0 and ignores writes; `TXOPC[7:4]` is hardwired 0. -/
def Obligations.ReservedAndHardwiredBits : Prop :=
  (∀ (index : Byte) (value : Word) (s : State), 0x0E ≤ index.toNat →
    readReg index s = 0 ∧ writeReg index value s = s) ∧
  ∀ (value : Word) (s : State), writeReg 0x08 value s = { s with txopc := value.extractLsb' 0 4 } ∧
    readReg 0x08 (writeReg 0x08 value s) = value &&& 0x0F

/-- 10 R22, R26, R34 to R38, R41 to R43, 60 R300: the ordinary register indices. What each reads, that a write of an
operand register changes that register only and reads back (the low 16 bits in `CCODE`, log 2), that a write of a read-only
register changes nothing (log 3), that the host's accesses between commands are these, and the eleven codes of `STATUS`. -/
def Obligations.RegisterMapReadsAndWrites : Prop :=
  (∀ s : State, readReg 0x01 s = (statusCode s.status).setWidth 32 ∧ readReg 0x03 s = s.http.setWidth 32 ∧
    readReg 0x04 s = s.rxb0.setWidth 32 ∧ readReg 0x05 s = s.rxb1.setWidth 32 ∧ readReg 0x06 s = s.rxplen ∧
    readReg 0x07 s = s.rxmkey ∧ readReg 0x08 s = s.txopc.setWidth 32 ∧ readReg 0x09 s = s.txlen ∧
    readReg 0x0A s = s.ccode.setWidth 32 ∧ readReg 0x0B s = s.hconnLen ∧ readReg 0x0C s = s.hupgLen ∧
    readReg 0x0D s = s.hkeyLen) ∧
  (∀ (v : Word) (s : State),
    (writeReg 0x09 v s = { s with txlen := v } ∧ readReg 0x09 (writeReg 0x09 v s) = v) ∧
    (writeReg 0x0A v s = { s with ccode := v.extractLsb' 0 16 } ∧ readReg 0x0A (writeReg 0x0A v s) = v &&& 0xFFFF) ∧
    (writeReg 0x0B v s = { s with hconnLen := v } ∧ readReg 0x0B (writeReg 0x0B v s) = v) ∧
    (writeReg 0x0C v s = { s with hupgLen := v } ∧ readReg 0x0C (writeReg 0x0C v s) = v) ∧
    (writeReg 0x0D v s = { s with hkeyLen := v } ∧ readReg 0x0D (writeReg 0x0D v s) = v)) ∧
  (∀ (index : Byte) (v : Word) (s : State), index ∈ [(0x01 : Byte), 0x02, 0x03, 0x04, 0x05, 0x06, 0x07] →
    writeReg index v s = s) ∧
  (∀ (s : State) (rest : List Input) (index : Byte) (v : Word), busy s = false →
    (s.inputs = .readReg index :: rest → step s = .next { s with inputs := rest, hostData := readReg index s }) ∧
    (s.inputs = .writeReg index v :: rest → index ≠ 0x00 → step s = .next (writeReg index v { s with inputs := rest }))) ∧
  (statusCode .ok = 0x00 ∧ statusCode .closeReceived = 0x01 ∧ statusCode .notAnUpgradeRequest = 0x10 ∧
    statusCode .missingHandshakeKey = 0x11 ∧ statusCode .streamTakeoverFailure = 0x12 ∧
    statusCode .ioTruncated = 0x20 ∧ statusCode .ioError = 0x21 ∧ statusCode .fragmentationUnsupported = 0x22 ∧
    statusCode .illegalCommand = 0x30 ∧ statusCode .illegalState = 0x31 ∧ statusCode .lengthUnrepresentable = 0x32)

/-- 10 R27, R24, 00 R15: the packed `STATE` register. Between commands a read of it answers the fields; while a command
waits, whatever it has done so far, it answers the fields as they were before the command, with `BUSY` 1 (log 26). -/
def Obligations.StateRegisterPacking : Prop :=
  (∀ s : State, (stateReg s).extractLsb' 0 2 = sessCode s.sess ∧ (stateReg s).getLsbD 2 = s.owned ∧
    (stateReg s).getLsbD 3 = busy s ∧ (stateReg s).getLsbD 4 = s.closeRcvd ∧ (stateReg s).getLsbD 5 = s.hsok ∧
    (stateReg s).getLsbD 6 = s.released ∧ (stateReg s).getLsbD 7 = false) ∧
  (∀ s : State, busy s = false → readReg 0x02 s = (stateReg s).setWidth 32) ∧
  (∀ (i : Instr) (s t : State), busy s = false → exec i s = .next t → busy t = true →
    readReg 0x02 t = (stateReg s ||| 0x08).setWidth 32) ∧
  ∀ s t : State, runInv s → busy s = true → step s = .next t → busy t = true → readReg 0x02 t = readReg 0x02 s

/-- 10 R24, 70 R346: while `BUSY = 1` every host write is refused, and a read of `STATE` is valid; what it reads then
is StateRegisterPacking's. A write of a reserved index is refused like any other (log 27). -/
def Obligations.BusyHostWritesRefused : Prop :=
  ∀ (s : State) (rest : List Input), busy s = true →
    (∀ (index : Byte) (value : Word), s.inputs = .writeReg index value :: rest →
      step s = .refused .hostWriteWhileBusy) ∧
    (∀ (b : BufName) (i : Nat) (v : Byte), s.inputs = .writeBuf b i v :: rest → step s = .refused .hostWriteWhileBusy) ∧
    (s.inputs = .readReg 0x02 :: rest →
      step s = .next { s with inputs := rest, hostData := readReg 0x02 s })

/-- 10 R40, R44 to R46, 20 R82: the host's buffer accesses between commands. Of every buffer, a byte below the capacity and
the valid length reads as the byte held, zero-extended to the port (log 29); `ACCEPT` is valid while `HSOK = 1`, and while
`HSOK = 0` none of it is (log 9). Below the capacity but not below the valid length a read answers some value, and changes
nothing but the port and the count of free values (log 7). A byte written to a writable buffer is then held, and every other
byte and everything else is unchanged. `PBUF` and `ACCEPT` refuse writes, and an index at or above the capacity stops (a
fault, log 11). A step that takes an access does this. -/
def Obligations.HostBufferAccess : Prop :=
  (∀ (s : State) (i : Nat), busy s = false →
    (i < s.cfg.pbufCap → i < s.rxplen.toNat →
      hostReadBuf .pbuf i s = .next { s with hostData := (bufGet s.pbuf i).setWidth 32 }) ∧
    (i < s.cfg.txbufCap → i < s.txlen.toNat →
      hostReadBuf .txbuf i s = .next { s with hostData := (bufGet s.txbuf i).setWidth 32 }) ∧
    (i < s.cfg.hdrCap → i < s.hconnLen.toNat →
      hostReadBuf .hconn i s = .next { s with hostData := (bufGet s.hconn i).setWidth 32 }) ∧
    (i < s.cfg.hdrCap → i < s.hupgLen.toNat →
      hostReadBuf .hupg i s = .next { s with hostData := (bufGet s.hupg i).setWidth 32 }) ∧
    (i < s.cfg.hdrCap → i < s.hkeyLen.toNat →
      hostReadBuf .hkey i s = .next { s with hostData := (bufGet s.hkey i).setWidth 32 }) ∧
    (i < 28 → s.hsok = true →
      hostReadBuf .accept i s = .next { s with hostData := (bufGet s.accept i).setWidth 32 }) ∧
    (s.hsok = false → bufLen .accept s = 0)) ∧
  (∀ (s : State) (b : BufName) (i : Nat) (v : Byte), busy s = false →
    (b = .pbuf ∨ b = .accept → hostWriteBuf b i v s = .refused .readOnlyBuffer) ∧
    (b ≠ .pbuf → b ≠ .accept → bufCap b s ≤ i → hostWriteBuf b i v s = .fault .noSuchBufferByte) ∧
    (bufCap b s ≤ i → hostReadBuf b i s = .fault .noSuchBufferByte) ∧
    (i < bufCap b s → bufLen b s ≤ i →
      ∃ t : State, hostReadBuf b i s = .next t ∧ t = { s with hostData := t.hostData, freeCount := t.freeCount }) ∧
    (Memory.wf s → b ≠ .pbuf → b ≠ .accept → i < bufCap b s →
      ∃ t : State, hostWriteBuf b i v s = .next t ∧ t = setBuf b (getBuf b t) s ∧ bufGet (getBuf b t) i = v ∧
        (∀ j, j ≠ i → bufGet (getBuf b t) j = bufGet (getBuf b s) j) ∧
        (i < bufLen b s → hostReadBuf b i t = .next { t with hostData := v.setWidth 32 }))) ∧
  ∀ (s : State) (b : BufName) (i : Nat) (v : Byte) (rest : List Input),
    (s.inputs = .readBuf b i :: rest → step s = hostReadBuf b i { s with inputs := rest }) ∧
    (s.inputs = .writeBuf b i v :: rest → step s = hostWriteBuf b i v { s with inputs := rest })

/-- 10 R56, 20 R87: steps of two instances do not depend on each other's state or order, and leave the others
alone (log 20). -/
def Obligations.InstancesAreIndependent : Prop :=
  ∀ (sys : System) (j k : Nat), j ≠ k →
    (stepAt j sys).bind (stepAt k) = (stepAt k sys).bind (stepAt j) ∧
    ∀ sys' : System, stepAt j sys = some sys' →
      sys'.instances[k]? = sys.instances[k]? ∧ sys'.instances.length = sys.instances.length

/-! ### Frames -/

/-- 41 R189 to R191: `HSDERIVE` changes nothing but `ACCEPT[0..28)`, `HTTP`, `STATUS` and the fields `SESS` and
`HSOK` of `STATE`. -/
def Obligations.FrameOfHsderive : Prop :=
  ∀ s t : State, exec .hsderive s = .next t →
    t = { s with
      accept := t.accept, hsok := t.hsok, http := t.http, sess := t.sess, status := t.status, engine := t.engine } ∧
    ∀ i, 28 ≤ i → bufGet t.accept i = bufGet s.accept i

/-- 43 R240, R246, R249: `ENCODE` and `ENCCLOSE` change no register but `STATUS` and `STATE`, no buffer byte and
nothing of RX. -/
def Obligations.FrameOfEncoders : Prop :=
  ∀ (i : Instr) (s t : State), i ∈ [Instr.encode, Instr.encclose] → exec i s = .next t →
    t = { s with
      tx := t.tx, events := t.events, txDraws := t.txDraws, drawCount := t.drawCount, status := t.status
      sess := t.sess, owned := t.owned, released := t.released, engine := t.engine }

/-- 42 R210, 44 R268, R272: `DECODE`, `STEP`, `RUN` and every frame instruction change no operand register, no buffer
but `PBUF`, not `HTTP` and not `HSOK`; `DECODE` writes no TX byte. Of `PBUF`, unless the outcome is `IOTruncated` (42 R223),
`DECODE`, `STEP` and the frame instructions write only bytes below `RXPLEN` (42 R217), and `RUN` only bytes below `PBUF_CAP`. -/
def Obligations.FrameOfDecoders : Prop :=
  ∀ (i : Instr) (s t : State), i ∈ [Instr.decode, Instr.step, Instr.run] ∨ i.space = .frame → exec i s = .next t →
    t = { s with
      rxb0 := t.rxb0, rxb1 := t.rxb1, rxplen := t.rxplen, rxmkey := t.rxmkey, pbuf := t.pbuf, rx := t.rx
      rxPos := t.rxPos, freeCount := t.freeCount, tx := t.tx, events := t.events, txDraws := t.txDraws
      drawCount := t.drawCount, status := t.status, sess := t.sess, owned := t.owned, released := t.released
      closeRcvd := t.closeRcvd, engine := t.engine } ∧
    (i = .decode → t.tx = s.tx ∧ t.txDraws = s.txDraws ∧ t.drawCount = s.drawCount) ∧
    (t.status ≠ .ioTruncated → i ≠ .run → ∀ k, t.rxplen.toNat ≤ k → bufGet t.pbuf k = bufGet s.pbuf k) ∧
    (t.status ≠ .ioTruncated → ∀ k, s.cfg.pbufCap ≤ k → bufGet t.pbuf k = bufGet s.pbuf k)
end

