-- ==== Sys2Proof/Laws/Buffer.lean ====
section
/-! SUPPORT. The buffers: reading after writing, and every buffer operation keeps the canonical form. -/

namespace Sys2Proof.Machine

theorem cellsFind_put_same (i : Nat) (v : Byte) (cs : List Host.Cell) : cellsFind i (cellsPut i v cs) = some v := by
  induction cs with
  | nil => simp [cellsPut, cellsFind]
  | cons c cs ih =>
    obtain ⟨j, w⟩ := c
    unfold cellsPut
    split
    · simp [cellsFind]
    · split
      · simp [cellsFind]
      · rename_i h
        simp [cellsFind, Ne.symm h, ih]

theorem cellsFind_put_other {i k : Nat} (v : Byte) (cs : List Host.Cell) (h : k ≠ i) :
    cellsFind k (cellsPut i v cs) = cellsFind k cs := by
  induction cs with
  | nil => simp [cellsPut, cellsFind, Ne.symm h]
  | cons c cs ih =>
    obtain ⟨j, w⟩ := c
    unfold cellsPut
    split
    · simp [cellsFind, Ne.symm h]
    · split
      · rename_i hij
        subst hij
        simp [cellsFind, Ne.symm h]
      · simp only [cellsFind, ih]

theorem cellsFind_none_of_above {i : Nat} {cs : List Host.Cell} (h : ∀ c ∈ cs, i < c.1) : cellsFind i cs = none := by
  induction cs with
  | nil => rfl
  | cons c cs ih =>
    obtain ⟨j, w⟩ := c
    have hj : i < j := h (j, w) (by simp)
    simp only [cellsFind, if_neg (Nat.ne_of_gt hj)]
    exact ih fun c hc => h c (by simp [hc])

theorem cellsFind_drop_same {i : Nat} {cs : List Host.Cell} (h : cs.Pairwise fun x y => x.1 < y.1) :
    cellsFind i (cellsDrop i cs) = none := by
  induction cs with
  | nil => rfl
  | cons c cs ih =>
    obtain ⟨j, w⟩ := c
    obtain ⟨hj, hcs⟩ := List.pairwise_cons.mp h
    unfold cellsDrop
    split
    · rename_i hji
      subst hji
      exact cellsFind_none_of_above hj
    · rename_i hji
      simp [cellsFind, hji, ih hcs]

theorem cellsFind_drop_other {i k : Nat} (cs : List Host.Cell) (h : k ≠ i) :
    cellsFind k (cellsDrop i cs) = cellsFind k cs := by
  induction cs with
  | nil => rfl
  | cons c cs ih =>
    obtain ⟨j, w⟩ := c
    unfold cellsDrop
    split
    · rename_i hji
      subst hji
      simp [cellsFind, Ne.symm h]
    · simp only [cellsFind, ih]

theorem mem_cellsPut {c : Host.Cell} {i : Nat} {v : Byte} {cs : List Host.Cell} (h : c ∈ cellsPut i v cs) :
    c = (i, v) ∨ c ∈ cs := by
  induction cs with
  | nil => simpa [cellsPut] using h
  | cons d cs ih =>
    obtain ⟨j, w⟩ := d
    unfold cellsPut at h
    split at h
    · simpa using h
    · split at h
      · rcases List.mem_cons.mp h with h | h
        · exact .inl h
        · exact .inr (by simp [h])
      · rcases List.mem_cons.mp h with h | h
        · exact .inr (by simp [h])
        · rcases ih h with h | h
          · exact .inl h
          · exact .inr (by simp [h])

theorem mem_cellsDrop {c : Host.Cell} {i : Nat} {cs : List Host.Cell} (h : c ∈ cellsDrop i cs) : c ∈ cs := by
  induction cs with
  | nil => exact h
  | cons d cs ih =>
    obtain ⟨j, w⟩ := d
    unfold cellsDrop at h
    split at h
    · simp [h]
    · rcases List.mem_cons.mp h with h | h
      · simp [h]
      · simp [ih h]

theorem cellsPut_rising {i : Nat} {v : Byte} {cs : List Host.Cell} (h : cs.Pairwise fun x y => x.1 < y.1) :
    (cellsPut i v cs).Pairwise fun x y => x.1 < y.1 := by
  induction cs with
  | nil => simp [cellsPut]
  | cons c cs ih =>
    obtain ⟨j, w⟩ := c
    obtain ⟨hj, hcs⟩ := List.pairwise_cons.mp h
    unfold cellsPut
    split
    · rename_i hij
      refine List.pairwise_cons.mpr ⟨fun c hc => ?_, h⟩
      rcases List.mem_cons.mp hc with rfl | hc
      · exact hij
      · exact Nat.lt_trans hij (hj c hc)
    · split
      · rename_i hij
        subst hij
        exact List.pairwise_cons.mpr ⟨hj, hcs⟩
      · refine List.pairwise_cons.mpr ⟨fun c hc => ?_, ih hcs⟩
        rcases mem_cellsPut hc with rfl | hc
        · show j < i
          omega
        · exact hj c hc

theorem cellsDrop_rising {i : Nat} {cs : List Host.Cell} (h : cs.Pairwise fun x y => x.1 < y.1) :
    (cellsDrop i cs).Pairwise fun x y => x.1 < y.1 := by
  induction cs with
  | nil => simp [cellsDrop]
  | cons c cs ih =>
    obtain ⟨j, w⟩ := c
    obtain ⟨hj, hcs⟩ := List.pairwise_cons.mp h
    unfold cellsDrop
    split
    · exact hcs
    · exact List.pairwise_cons.mpr ⟨fun c hc => hj c (mem_cellsDrop hc), ih hcs⟩

/-- A byte reads as it was last written. -/
theorem bufGet_bufSet_same {b : Buffer} (h : b.wf) (i : Nat) (v : Byte) : bufGet (bufSet b i v) i = v := by
  unfold bufSet
  split
  · rename_i hz
    simp [bufGet, cellsFind_drop_same h.1, hz.1, hz.2, blankByte]
  · simp [bufGet, cellsFind_put_same]

/-- A write leaves every other byte alone. -/
theorem bufGet_bufSet_other (b : Buffer) {i k : Nat} (v : Byte) (h : k ≠ i) :
    bufGet (bufSet b i v) k = bufGet b k := by
  unfold bufSet
  split
  · simp [bufGet, cellsFind_drop_other b.cells h]
  · simp [bufGet, cellsFind_put_other v b.cells h]

@[simp] theorem bufSet_blank (b : Buffer) (i : Nat) (v : Byte) : (bufSet b i v).blank = b.blank := by
  unfold bufSet
  split <;> rfl

theorem bufSet_wf {b : Buffer} (h : b.wf) (i : Nat) (v : Byte) : (bufSet b i v).wf := by
  unfold bufSet
  split
  · exact ⟨cellsDrop_rising h.1, fun hz c hc => h.2 hz c (mem_cellsDrop hc)⟩
  · rename_i hz
    refine ⟨cellsPut_rising h.1, fun hb c hc => ?_⟩
    rcases mem_cellsPut hc with rfl | hc
    · exact fun hv => hz ⟨hb, hv⟩
    · exact h.2 hb c hc

theorem bufFill_wf {b : Buffer} (h : b.wf) (i : Nat) (bs : List Byte) : (bufFill b i bs).wf := by
  induction bs generalizing b i with
  | nil => exact h
  | cons v vs ih => exact ih (bufSet_wf h i v) (i + 1)

@[simp] theorem bufFill_blank (b : Buffer) (i : Nat) (bs : List Byte) : (bufFill b i bs).blank = b.blank := by
  induction bs generalizing b i with
  | nil => rfl
  | cons v vs ih => simp [bufFill, ih]

/-- Filling from index `i` leaves every byte outside the filled range alone. -/
theorem bufGet_bufFill_outside (b : Buffer) (i : Nat) (bs : List Byte) {k : Nat} (h : k < i ∨ i + bs.length ≤ k) :
    bufGet (bufFill b i bs) k = bufGet b k := by
  induction bs generalizing b i with
  | nil => rfl
  | cons v vs ih =>
    simp only [List.length_cons] at h
    rw [bufFill, ih (bufSet b i v) (i + 1) (by omega), bufGet_bufSet_other b v (by omega)]

/-- Filling from index `i` puts byte `j` of the sequence at index `i + j`. -/
theorem bufGet_bufFill_inside {b : Buffer} (h : b.wf) (i j : Nat) (bs : List Byte) (hj : j < bs.length) :
    bufGet (bufFill b i bs) (i + j) = bs[j] := by
  induction bs generalizing b i j with
  | nil => simp at hj
  | cons v vs ih =>
    cases j with
    | zero => simp [bufFill, bufGet_bufFill_outside, bufGet_bufSet_same h]
    | succ j =>
      have := ih (bufSet_wf h i v) (i + 1) j (by simpa using hj)
      simpa [bufFill, Nat.add_assoc, Nat.add_comm 1 j] using this

theorem bufUnwritten_wf (source epoch : Nat) : (bufUnwritten source epoch).wf := by simp [bufUnwritten, Buffer.wf]

@[simp] theorem bufSlice_length (b : Buffer) (i n : Nat) : (bufSlice b i n).length = n := by
  induction n generalizing i with
  | zero => rfl
  | succ n ih => simp [bufSlice, ih]

/-- What a filled range reads back as. -/
theorem bufSlice_bufFill {b : Buffer} (h : b.wf) (i : Nat) (bs : List Byte) :
    bufSlice (bufFill b i bs) i bs.length = bs := by
  induction bs generalizing b i with
  | nil => rfl
  | cons v vs ih =>
    rw [List.length_cons, bufSlice, bufFill, ih (bufSet_wf h i v) (i + 1)]
    simp [bufGet_bufFill_outside, bufGet_bufSet_same h]

theorem resetWith_memory_wf (cfg : Config) : Memory.wf (State.resetWith cfg) := by
  simp [Memory.wf, Buffer.wf, State.resetWith]

theorem resetState_memory_wf (s : State) : Memory.wf (resetState s) := by
  simp [Memory.wf, Buffer.wf, resetState, State.resetWith, bufUnwritten]

end Sys2Proof.Machine
end

