-- ==== Sys2Proof/Laws/State.lean ====
section
/-! SUPPORT. Every named update of a state field by field, so that no proof unfolds a record update. -/

namespace Sys2Proof.Machine

@[simp] theorem complete_cfg (e : Status) (s : State) : (complete e s).cfg = s.cfg := rfl
@[simp] theorem complete_status (e : Status) (s : State) : (complete e s).status = e := rfl
@[simp] theorem complete_sess (e : Status) (s : State) : (complete e s).sess = s.sess := rfl
@[simp] theorem complete_owned (e : Status) (s : State) : (complete e s).owned = s.owned := rfl
@[simp] theorem complete_closeRcvd (e : Status) (s : State) : (complete e s).closeRcvd = s.closeRcvd := rfl
@[simp] theorem complete_hsok (e : Status) (s : State) : (complete e s).hsok = s.hsok := rfl
@[simp] theorem complete_released (e : Status) (s : State) : (complete e s).released = s.released := rfl
@[simp] theorem complete_http (e : Status) (s : State) : (complete e s).http = s.http := rfl
@[simp] theorem complete_rxb0 (e : Status) (s : State) : (complete e s).rxb0 = s.rxb0 := rfl
@[simp] theorem complete_rxb1 (e : Status) (s : State) : (complete e s).rxb1 = s.rxb1 := rfl
@[simp] theorem complete_rxplen (e : Status) (s : State) : (complete e s).rxplen = s.rxplen := rfl
@[simp] theorem complete_rxmkey (e : Status) (s : State) : (complete e s).rxmkey = s.rxmkey := rfl
@[simp] theorem complete_txopc (e : Status) (s : State) : (complete e s).txopc = s.txopc := rfl
@[simp] theorem complete_txlen (e : Status) (s : State) : (complete e s).txlen = s.txlen := rfl
@[simp] theorem complete_ccode (e : Status) (s : State) : (complete e s).ccode = s.ccode := rfl
@[simp] theorem complete_hconnLen (e : Status) (s : State) : (complete e s).hconnLen = s.hconnLen := rfl
@[simp] theorem complete_hupgLen (e : Status) (s : State) : (complete e s).hupgLen = s.hupgLen := rfl
@[simp] theorem complete_hkeyLen (e : Status) (s : State) : (complete e s).hkeyLen = s.hkeyLen := rfl
@[simp] theorem complete_pbuf (e : Status) (s : State) : (complete e s).pbuf = s.pbuf := rfl
@[simp] theorem complete_txbuf (e : Status) (s : State) : (complete e s).txbuf = s.txbuf := rfl
@[simp] theorem complete_hconn (e : Status) (s : State) : (complete e s).hconn = s.hconn := rfl
@[simp] theorem complete_hupg (e : Status) (s : State) : (complete e s).hupg = s.hupg := rfl
@[simp] theorem complete_hkey (e : Status) (s : State) : (complete e s).hkey = s.hkey := rfl
@[simp] theorem complete_accept (e : Status) (s : State) : (complete e s).accept = s.accept := rfl
@[simp] theorem complete_rx (e : Status) (s : State) : (complete e s).rx = s.rx := rfl
@[simp] theorem complete_rxEnd (e : Status) (s : State) : (complete e s).rxEnd = s.rxEnd := rfl
@[simp] theorem complete_rxPos (e : Status) (s : State) : (complete e s).rxPos = s.rxPos := rfl
@[simp] theorem complete_tx (e : Status) (s : State) : (complete e s).tx = s.tx := rfl
@[simp] theorem complete_engine (e : Status) (s : State) : (complete e s).engine = .idle := rfl
@[simp] theorem complete_events (e : Status) (s : State) : (complete e s).events = s.events := rfl
@[simp] theorem complete_inputs (e : Status) (s : State) : (complete e s).inputs = s.inputs := rfl
@[simp] theorem complete_txDraws (e : Status) (s : State) : (complete e s).txDraws = s.txDraws := rfl
@[simp] theorem complete_drawCount (e : Status) (s : State) : (complete e s).drawCount = s.drawCount := rfl
@[simp] theorem complete_freeCount (e : Status) (s : State) : (complete e s).freeCount = s.freeCount := rfl
@[simp] theorem complete_hostData (e : Status) (s : State) : (complete e s).hostData = s.hostData := rfl

@[simp] theorem illegalState_cfg (s : State) : (illegalState s).cfg = s.cfg := rfl
@[simp] theorem illegalState_status (s : State) : (illegalState s).status = .illegalState := rfl
@[simp] theorem illegalState_sess (s : State) : (illegalState s).sess = s.sess := rfl
@[simp] theorem illegalState_owned (s : State) : (illegalState s).owned = s.owned := rfl
@[simp] theorem illegalState_closeRcvd (s : State) : (illegalState s).closeRcvd = s.closeRcvd := rfl
@[simp] theorem illegalState_hsok (s : State) : (illegalState s).hsok = s.hsok := rfl
@[simp] theorem illegalState_released (s : State) : (illegalState s).released = s.released := rfl
@[simp] theorem illegalState_http (s : State) : (illegalState s).http = s.http := rfl
@[simp] theorem illegalState_rxb0 (s : State) : (illegalState s).rxb0 = s.rxb0 := rfl
@[simp] theorem illegalState_rxb1 (s : State) : (illegalState s).rxb1 = s.rxb1 := rfl
@[simp] theorem illegalState_rxplen (s : State) : (illegalState s).rxplen = s.rxplen := rfl
@[simp] theorem illegalState_rxmkey (s : State) : (illegalState s).rxmkey = s.rxmkey := rfl
@[simp] theorem illegalState_txopc (s : State) : (illegalState s).txopc = s.txopc := rfl
@[simp] theorem illegalState_txlen (s : State) : (illegalState s).txlen = s.txlen := rfl
@[simp] theorem illegalState_ccode (s : State) : (illegalState s).ccode = s.ccode := rfl
@[simp] theorem illegalState_hconnLen (s : State) : (illegalState s).hconnLen = s.hconnLen := rfl
@[simp] theorem illegalState_hupgLen (s : State) : (illegalState s).hupgLen = s.hupgLen := rfl
@[simp] theorem illegalState_hkeyLen (s : State) : (illegalState s).hkeyLen = s.hkeyLen := rfl
@[simp] theorem illegalState_pbuf (s : State) : (illegalState s).pbuf = s.pbuf := rfl
@[simp] theorem illegalState_txbuf (s : State) : (illegalState s).txbuf = s.txbuf := rfl
@[simp] theorem illegalState_hconn (s : State) : (illegalState s).hconn = s.hconn := rfl
@[simp] theorem illegalState_hupg (s : State) : (illegalState s).hupg = s.hupg := rfl
@[simp] theorem illegalState_hkey (s : State) : (illegalState s).hkey = s.hkey := rfl
@[simp] theorem illegalState_accept (s : State) : (illegalState s).accept = s.accept := rfl
@[simp] theorem illegalState_rx (s : State) : (illegalState s).rx = s.rx := rfl
@[simp] theorem illegalState_rxEnd (s : State) : (illegalState s).rxEnd = s.rxEnd := rfl
@[simp] theorem illegalState_rxPos (s : State) : (illegalState s).rxPos = s.rxPos := rfl
@[simp] theorem illegalState_tx (s : State) : (illegalState s).tx = s.tx := rfl
@[simp] theorem illegalState_engine (s : State) : (illegalState s).engine = s.engine := rfl
@[simp] theorem illegalState_events (s : State) : (illegalState s).events = s.events := rfl
@[simp] theorem illegalState_inputs (s : State) : (illegalState s).inputs = s.inputs := rfl
@[simp] theorem illegalState_txDraws (s : State) : (illegalState s).txDraws = s.txDraws := rfl
@[simp] theorem illegalState_drawCount (s : State) : (illegalState s).drawCount = s.drawCount := rfl
@[simp] theorem illegalState_freeCount (s : State) : (illegalState s).freeCount = s.freeCount := rfl
@[simp] theorem illegalState_hostData (s : State) : (illegalState s).hostData = s.hostData := rfl

@[simp] theorem illegalCommand_cfg (s : State) : (illegalCommand s).cfg = s.cfg := rfl
@[simp] theorem illegalCommand_status (s : State) : (illegalCommand s).status = .illegalCommand := rfl
@[simp] theorem illegalCommand_sess (s : State) : (illegalCommand s).sess = s.sess := rfl
@[simp] theorem illegalCommand_owned (s : State) : (illegalCommand s).owned = s.owned := rfl
@[simp] theorem illegalCommand_closeRcvd (s : State) : (illegalCommand s).closeRcvd = s.closeRcvd := rfl
@[simp] theorem illegalCommand_hsok (s : State) : (illegalCommand s).hsok = s.hsok := rfl
@[simp] theorem illegalCommand_released (s : State) : (illegalCommand s).released = s.released := rfl
@[simp] theorem illegalCommand_http (s : State) : (illegalCommand s).http = s.http := rfl
@[simp] theorem illegalCommand_rxb0 (s : State) : (illegalCommand s).rxb0 = s.rxb0 := rfl
@[simp] theorem illegalCommand_rxb1 (s : State) : (illegalCommand s).rxb1 = s.rxb1 := rfl
@[simp] theorem illegalCommand_rxplen (s : State) : (illegalCommand s).rxplen = s.rxplen := rfl
@[simp] theorem illegalCommand_rxmkey (s : State) : (illegalCommand s).rxmkey = s.rxmkey := rfl
@[simp] theorem illegalCommand_txopc (s : State) : (illegalCommand s).txopc = s.txopc := rfl
@[simp] theorem illegalCommand_txlen (s : State) : (illegalCommand s).txlen = s.txlen := rfl
@[simp] theorem illegalCommand_ccode (s : State) : (illegalCommand s).ccode = s.ccode := rfl
@[simp] theorem illegalCommand_hconnLen (s : State) : (illegalCommand s).hconnLen = s.hconnLen := rfl
@[simp] theorem illegalCommand_hupgLen (s : State) : (illegalCommand s).hupgLen = s.hupgLen := rfl
@[simp] theorem illegalCommand_hkeyLen (s : State) : (illegalCommand s).hkeyLen = s.hkeyLen := rfl
@[simp] theorem illegalCommand_pbuf (s : State) : (illegalCommand s).pbuf = s.pbuf := rfl
@[simp] theorem illegalCommand_txbuf (s : State) : (illegalCommand s).txbuf = s.txbuf := rfl
@[simp] theorem illegalCommand_hconn (s : State) : (illegalCommand s).hconn = s.hconn := rfl
@[simp] theorem illegalCommand_hupg (s : State) : (illegalCommand s).hupg = s.hupg := rfl
@[simp] theorem illegalCommand_hkey (s : State) : (illegalCommand s).hkey = s.hkey := rfl
@[simp] theorem illegalCommand_accept (s : State) : (illegalCommand s).accept = s.accept := rfl
@[simp] theorem illegalCommand_rx (s : State) : (illegalCommand s).rx = s.rx := rfl
@[simp] theorem illegalCommand_rxEnd (s : State) : (illegalCommand s).rxEnd = s.rxEnd := rfl
@[simp] theorem illegalCommand_rxPos (s : State) : (illegalCommand s).rxPos = s.rxPos := rfl
@[simp] theorem illegalCommand_tx (s : State) : (illegalCommand s).tx = s.tx := rfl
@[simp] theorem illegalCommand_engine (s : State) : (illegalCommand s).engine = s.engine := rfl
@[simp] theorem illegalCommand_events (s : State) : (illegalCommand s).events = s.events := rfl
@[simp] theorem illegalCommand_inputs (s : State) : (illegalCommand s).inputs = s.inputs := rfl
@[simp] theorem illegalCommand_txDraws (s : State) : (illegalCommand s).txDraws = s.txDraws := rfl
@[simp] theorem illegalCommand_drawCount (s : State) : (illegalCommand s).drawCount = s.drawCount := rfl
@[simp] theorem illegalCommand_freeCount (s : State) : (illegalCommand s).freeCount = s.freeCount := rfl
@[simp] theorem illegalCommand_hostData (s : State) : (illegalCommand s).hostData = s.hostData := rfl

@[simp] theorem logEvent_cfg (e : Status) (s : State) : (logEvent e s).cfg = s.cfg := rfl
@[simp] theorem logEvent_status (e : Status) (s : State) : (logEvent e s).status = s.status := rfl
@[simp] theorem logEvent_sess (e : Status) (s : State) : (logEvent e s).sess = s.sess := rfl
@[simp] theorem logEvent_owned (e : Status) (s : State) : (logEvent e s).owned = s.owned := rfl
@[simp] theorem logEvent_closeRcvd (e : Status) (s : State) : (logEvent e s).closeRcvd = s.closeRcvd := rfl
@[simp] theorem logEvent_hsok (e : Status) (s : State) : (logEvent e s).hsok = s.hsok := rfl
@[simp] theorem logEvent_released (e : Status) (s : State) : (logEvent e s).released = s.released := rfl
@[simp] theorem logEvent_http (e : Status) (s : State) : (logEvent e s).http = s.http := rfl
@[simp] theorem logEvent_rxb0 (e : Status) (s : State) : (logEvent e s).rxb0 = s.rxb0 := rfl
@[simp] theorem logEvent_rxb1 (e : Status) (s : State) : (logEvent e s).rxb1 = s.rxb1 := rfl
@[simp] theorem logEvent_rxplen (e : Status) (s : State) : (logEvent e s).rxplen = s.rxplen := rfl
@[simp] theorem logEvent_rxmkey (e : Status) (s : State) : (logEvent e s).rxmkey = s.rxmkey := rfl
@[simp] theorem logEvent_txopc (e : Status) (s : State) : (logEvent e s).txopc = s.txopc := rfl
@[simp] theorem logEvent_txlen (e : Status) (s : State) : (logEvent e s).txlen = s.txlen := rfl
@[simp] theorem logEvent_ccode (e : Status) (s : State) : (logEvent e s).ccode = s.ccode := rfl
@[simp] theorem logEvent_hconnLen (e : Status) (s : State) : (logEvent e s).hconnLen = s.hconnLen := rfl
@[simp] theorem logEvent_hupgLen (e : Status) (s : State) : (logEvent e s).hupgLen = s.hupgLen := rfl
@[simp] theorem logEvent_hkeyLen (e : Status) (s : State) : (logEvent e s).hkeyLen = s.hkeyLen := rfl
@[simp] theorem logEvent_pbuf (e : Status) (s : State) : (logEvent e s).pbuf = s.pbuf := rfl
@[simp] theorem logEvent_txbuf (e : Status) (s : State) : (logEvent e s).txbuf = s.txbuf := rfl
@[simp] theorem logEvent_hconn (e : Status) (s : State) : (logEvent e s).hconn = s.hconn := rfl
@[simp] theorem logEvent_hupg (e : Status) (s : State) : (logEvent e s).hupg = s.hupg := rfl
@[simp] theorem logEvent_hkey (e : Status) (s : State) : (logEvent e s).hkey = s.hkey := rfl
@[simp] theorem logEvent_accept (e : Status) (s : State) : (logEvent e s).accept = s.accept := rfl
@[simp] theorem logEvent_rx (e : Status) (s : State) : (logEvent e s).rx = s.rx := rfl
@[simp] theorem logEvent_rxEnd (e : Status) (s : State) : (logEvent e s).rxEnd = s.rxEnd := rfl
@[simp] theorem logEvent_rxPos (e : Status) (s : State) : (logEvent e s).rxPos = s.rxPos := rfl
@[simp] theorem logEvent_tx (e : Status) (s : State) : (logEvent e s).tx = s.tx := rfl
@[simp] theorem logEvent_engine (e : Status) (s : State) : (logEvent e s).engine = s.engine := rfl
@[simp] theorem logEvent_events (e : Status) (s : State) : (logEvent e s).events = s.events ++ [.log e] := rfl
@[simp] theorem logEvent_inputs (e : Status) (s : State) : (logEvent e s).inputs = s.inputs := rfl
@[simp] theorem logEvent_txDraws (e : Status) (s : State) : (logEvent e s).txDraws = s.txDraws := rfl
@[simp] theorem logEvent_drawCount (e : Status) (s : State) : (logEvent e s).drawCount = s.drawCount := rfl
@[simp] theorem logEvent_freeCount (e : Status) (s : State) : (logEvent e s).freeCount = s.freeCount := rfl
@[simp] theorem logEvent_hostData (e : Status) (s : State) : (logEvent e s).hostData = s.hostData := rfl

@[simp] theorem txAppend_cfg (bs : List Byte) (s : State) : (txAppend bs s).cfg = s.cfg := rfl
@[simp] theorem txAppend_status (bs : List Byte) (s : State) : (txAppend bs s).status = s.status := rfl
@[simp] theorem txAppend_sess (bs : List Byte) (s : State) : (txAppend bs s).sess = s.sess := rfl
@[simp] theorem txAppend_owned (bs : List Byte) (s : State) : (txAppend bs s).owned = s.owned := rfl
@[simp] theorem txAppend_closeRcvd (bs : List Byte) (s : State) : (txAppend bs s).closeRcvd = s.closeRcvd := rfl
@[simp] theorem txAppend_hsok (bs : List Byte) (s : State) : (txAppend bs s).hsok = s.hsok := rfl
@[simp] theorem txAppend_released (bs : List Byte) (s : State) : (txAppend bs s).released = s.released := rfl
@[simp] theorem txAppend_http (bs : List Byte) (s : State) : (txAppend bs s).http = s.http := rfl
@[simp] theorem txAppend_rxb0 (bs : List Byte) (s : State) : (txAppend bs s).rxb0 = s.rxb0 := rfl
@[simp] theorem txAppend_rxb1 (bs : List Byte) (s : State) : (txAppend bs s).rxb1 = s.rxb1 := rfl
@[simp] theorem txAppend_rxplen (bs : List Byte) (s : State) : (txAppend bs s).rxplen = s.rxplen := rfl
@[simp] theorem txAppend_rxmkey (bs : List Byte) (s : State) : (txAppend bs s).rxmkey = s.rxmkey := rfl
@[simp] theorem txAppend_txopc (bs : List Byte) (s : State) : (txAppend bs s).txopc = s.txopc := rfl
@[simp] theorem txAppend_txlen (bs : List Byte) (s : State) : (txAppend bs s).txlen = s.txlen := rfl
@[simp] theorem txAppend_ccode (bs : List Byte) (s : State) : (txAppend bs s).ccode = s.ccode := rfl
@[simp] theorem txAppend_hconnLen (bs : List Byte) (s : State) : (txAppend bs s).hconnLen = s.hconnLen := rfl
@[simp] theorem txAppend_hupgLen (bs : List Byte) (s : State) : (txAppend bs s).hupgLen = s.hupgLen := rfl
@[simp] theorem txAppend_hkeyLen (bs : List Byte) (s : State) : (txAppend bs s).hkeyLen = s.hkeyLen := rfl
@[simp] theorem txAppend_pbuf (bs : List Byte) (s : State) : (txAppend bs s).pbuf = s.pbuf := rfl
@[simp] theorem txAppend_txbuf (bs : List Byte) (s : State) : (txAppend bs s).txbuf = s.txbuf := rfl
@[simp] theorem txAppend_hconn (bs : List Byte) (s : State) : (txAppend bs s).hconn = s.hconn := rfl
@[simp] theorem txAppend_hupg (bs : List Byte) (s : State) : (txAppend bs s).hupg = s.hupg := rfl
@[simp] theorem txAppend_hkey (bs : List Byte) (s : State) : (txAppend bs s).hkey = s.hkey := rfl
@[simp] theorem txAppend_accept (bs : List Byte) (s : State) : (txAppend bs s).accept = s.accept := rfl
@[simp] theorem txAppend_rx (bs : List Byte) (s : State) : (txAppend bs s).rx = s.rx := rfl
@[simp] theorem txAppend_rxEnd (bs : List Byte) (s : State) : (txAppend bs s).rxEnd = s.rxEnd := rfl
@[simp] theorem txAppend_rxPos (bs : List Byte) (s : State) : (txAppend bs s).rxPos = s.rxPos := rfl
@[simp] theorem txAppend_tx (bs : List Byte) (s : State) : (txAppend bs s).tx = s.tx ++ bs := rfl
@[simp] theorem txAppend_engine (bs : List Byte) (s : State) : (txAppend bs s).engine = s.engine := rfl
@[simp] theorem txAppend_events (bs : List Byte) (s : State) : (txAppend bs s).events = s.events ++ bs.map Event.sent := rfl
@[simp] theorem txAppend_inputs (bs : List Byte) (s : State) : (txAppend bs s).inputs = s.inputs := rfl
@[simp] theorem txAppend_txDraws (bs : List Byte) (s : State) : (txAppend bs s).txDraws = s.txDraws := rfl
@[simp] theorem txAppend_drawCount (bs : List Byte) (s : State) : (txAppend bs s).drawCount = s.drawCount := rfl
@[simp] theorem txAppend_freeCount (bs : List Byte) (s : State) : (txAppend bs s).freeCount = s.freeCount := rfl
@[simp] theorem txAppend_hostData (bs : List Byte) (s : State) : (txAppend bs s).hostData = s.hostData := rfl

@[simp] theorem setHeader_cfg (b0 b1 : Byte) (s : State) : (setHeader b0 b1 s).cfg = s.cfg := rfl
@[simp] theorem setHeader_status (b0 b1 : Byte) (s : State) : (setHeader b0 b1 s).status = s.status := rfl
@[simp] theorem setHeader_sess (b0 b1 : Byte) (s : State) : (setHeader b0 b1 s).sess = s.sess := rfl
@[simp] theorem setHeader_owned (b0 b1 : Byte) (s : State) : (setHeader b0 b1 s).owned = s.owned := rfl
@[simp] theorem setHeader_closeRcvd (b0 b1 : Byte) (s : State) : (setHeader b0 b1 s).closeRcvd = s.closeRcvd := rfl
@[simp] theorem setHeader_hsok (b0 b1 : Byte) (s : State) : (setHeader b0 b1 s).hsok = s.hsok := rfl
@[simp] theorem setHeader_released (b0 b1 : Byte) (s : State) : (setHeader b0 b1 s).released = s.released := rfl
@[simp] theorem setHeader_http (b0 b1 : Byte) (s : State) : (setHeader b0 b1 s).http = s.http := rfl
@[simp] theorem setHeader_rxb0 (b0 b1 : Byte) (s : State) : (setHeader b0 b1 s).rxb0 = b0 := rfl
@[simp] theorem setHeader_rxb1 (b0 b1 : Byte) (s : State) : (setHeader b0 b1 s).rxb1 = b1 := rfl
@[simp] theorem setHeader_rxplen (b0 b1 : Byte) (s : State) : (setHeader b0 b1 s).rxplen = s.rxplen := rfl
@[simp] theorem setHeader_rxmkey (b0 b1 : Byte) (s : State) : (setHeader b0 b1 s).rxmkey = s.rxmkey := rfl
@[simp] theorem setHeader_txopc (b0 b1 : Byte) (s : State) : (setHeader b0 b1 s).txopc = s.txopc := rfl
@[simp] theorem setHeader_txlen (b0 b1 : Byte) (s : State) : (setHeader b0 b1 s).txlen = s.txlen := rfl
@[simp] theorem setHeader_ccode (b0 b1 : Byte) (s : State) : (setHeader b0 b1 s).ccode = s.ccode := rfl
@[simp] theorem setHeader_hconnLen (b0 b1 : Byte) (s : State) : (setHeader b0 b1 s).hconnLen = s.hconnLen := rfl
@[simp] theorem setHeader_hupgLen (b0 b1 : Byte) (s : State) : (setHeader b0 b1 s).hupgLen = s.hupgLen := rfl
@[simp] theorem setHeader_hkeyLen (b0 b1 : Byte) (s : State) : (setHeader b0 b1 s).hkeyLen = s.hkeyLen := rfl
@[simp] theorem setHeader_pbuf (b0 b1 : Byte) (s : State) : (setHeader b0 b1 s).pbuf = s.pbuf := rfl
@[simp] theorem setHeader_txbuf (b0 b1 : Byte) (s : State) : (setHeader b0 b1 s).txbuf = s.txbuf := rfl
@[simp] theorem setHeader_hconn (b0 b1 : Byte) (s : State) : (setHeader b0 b1 s).hconn = s.hconn := rfl
@[simp] theorem setHeader_hupg (b0 b1 : Byte) (s : State) : (setHeader b0 b1 s).hupg = s.hupg := rfl
@[simp] theorem setHeader_hkey (b0 b1 : Byte) (s : State) : (setHeader b0 b1 s).hkey = s.hkey := rfl
@[simp] theorem setHeader_accept (b0 b1 : Byte) (s : State) : (setHeader b0 b1 s).accept = s.accept := rfl
@[simp] theorem setHeader_rx (b0 b1 : Byte) (s : State) : (setHeader b0 b1 s).rx = s.rx := rfl
@[simp] theorem setHeader_rxEnd (b0 b1 : Byte) (s : State) : (setHeader b0 b1 s).rxEnd = s.rxEnd := rfl
@[simp] theorem setHeader_rxPos (b0 b1 : Byte) (s : State) : (setHeader b0 b1 s).rxPos = s.rxPos := rfl
@[simp] theorem setHeader_tx (b0 b1 : Byte) (s : State) : (setHeader b0 b1 s).tx = s.tx := rfl
@[simp] theorem setHeader_engine (b0 b1 : Byte) (s : State) : (setHeader b0 b1 s).engine = s.engine := rfl
@[simp] theorem setHeader_events (b0 b1 : Byte) (s : State) : (setHeader b0 b1 s).events = s.events := rfl
@[simp] theorem setHeader_inputs (b0 b1 : Byte) (s : State) : (setHeader b0 b1 s).inputs = s.inputs := rfl
@[simp] theorem setHeader_txDraws (b0 b1 : Byte) (s : State) : (setHeader b0 b1 s).txDraws = s.txDraws := rfl
@[simp] theorem setHeader_drawCount (b0 b1 : Byte) (s : State) : (setHeader b0 b1 s).drawCount = s.drawCount := rfl
@[simp] theorem setHeader_freeCount (b0 b1 : Byte) (s : State) : (setHeader b0 b1 s).freeCount = s.freeCount := rfl
@[simp] theorem setHeader_hostData (b0 b1 : Byte) (s : State) : (setHeader b0 b1 s).hostData = s.hostData := rfl

@[simp] theorem atHeader_cfg (l : Loop) (s : State) : (atHeader l s).cfg = s.cfg := rfl
@[simp] theorem atHeader_status (l : Loop) (s : State) : (atHeader l s).status = s.status := rfl
@[simp] theorem atHeader_sess (l : Loop) (s : State) : (atHeader l s).sess = s.sess := rfl
@[simp] theorem atHeader_owned (l : Loop) (s : State) : (atHeader l s).owned = s.owned := rfl
@[simp] theorem atHeader_closeRcvd (l : Loop) (s : State) : (atHeader l s).closeRcvd = s.closeRcvd := rfl
@[simp] theorem atHeader_hsok (l : Loop) (s : State) : (atHeader l s).hsok = s.hsok := rfl
@[simp] theorem atHeader_released (l : Loop) (s : State) : (atHeader l s).released = s.released := rfl
@[simp] theorem atHeader_http (l : Loop) (s : State) : (atHeader l s).http = s.http := rfl
@[simp] theorem atHeader_rxb0 (l : Loop) (s : State) : (atHeader l s).rxb0 = s.rxb0 := rfl
@[simp] theorem atHeader_rxb1 (l : Loop) (s : State) : (atHeader l s).rxb1 = s.rxb1 := rfl
@[simp] theorem atHeader_rxplen (l : Loop) (s : State) : (atHeader l s).rxplen = s.rxplen := rfl
@[simp] theorem atHeader_rxmkey (l : Loop) (s : State) : (atHeader l s).rxmkey = s.rxmkey := rfl
@[simp] theorem atHeader_txopc (l : Loop) (s : State) : (atHeader l s).txopc = s.txopc := rfl
@[simp] theorem atHeader_txlen (l : Loop) (s : State) : (atHeader l s).txlen = s.txlen := rfl
@[simp] theorem atHeader_ccode (l : Loop) (s : State) : (atHeader l s).ccode = s.ccode := rfl
@[simp] theorem atHeader_hconnLen (l : Loop) (s : State) : (atHeader l s).hconnLen = s.hconnLen := rfl
@[simp] theorem atHeader_hupgLen (l : Loop) (s : State) : (atHeader l s).hupgLen = s.hupgLen := rfl
@[simp] theorem atHeader_hkeyLen (l : Loop) (s : State) : (atHeader l s).hkeyLen = s.hkeyLen := rfl
@[simp] theorem atHeader_pbuf (l : Loop) (s : State) : (atHeader l s).pbuf = s.pbuf := rfl
@[simp] theorem atHeader_txbuf (l : Loop) (s : State) : (atHeader l s).txbuf = s.txbuf := rfl
@[simp] theorem atHeader_hconn (l : Loop) (s : State) : (atHeader l s).hconn = s.hconn := rfl
@[simp] theorem atHeader_hupg (l : Loop) (s : State) : (atHeader l s).hupg = s.hupg := rfl
@[simp] theorem atHeader_hkey (l : Loop) (s : State) : (atHeader l s).hkey = s.hkey := rfl
@[simp] theorem atHeader_accept (l : Loop) (s : State) : (atHeader l s).accept = s.accept := rfl
@[simp] theorem atHeader_rx (l : Loop) (s : State) : (atHeader l s).rx = s.rx := rfl
@[simp] theorem atHeader_rxEnd (l : Loop) (s : State) : (atHeader l s).rxEnd = s.rxEnd := rfl
@[simp] theorem atHeader_rxPos (l : Loop) (s : State) : (atHeader l s).rxPos = s.rxPos := rfl
@[simp] theorem atHeader_tx (l : Loop) (s : State) : (atHeader l s).tx = s.tx := rfl
@[simp] theorem atHeader_engine (l : Loop) (s : State) : (atHeader l s).engine = .frame l .hdr [] := rfl
@[simp] theorem atHeader_events (l : Loop) (s : State) : (atHeader l s).events = s.events := rfl
@[simp] theorem atHeader_inputs (l : Loop) (s : State) : (atHeader l s).inputs = s.inputs := rfl
@[simp] theorem atHeader_txDraws (l : Loop) (s : State) : (atHeader l s).txDraws = s.txDraws := rfl
@[simp] theorem atHeader_drawCount (l : Loop) (s : State) : (atHeader l s).drawCount = s.drawCount := rfl
@[simp] theorem atHeader_freeCount (l : Loop) (s : State) : (atHeader l s).freeCount = s.freeCount := rfl
@[simp] theorem atHeader_hostData (l : Loop) (s : State) : (atHeader l s).hostData = s.hostData := rfl

@[simp] theorem clobberRx_cfg (s : State) : (clobberRx s).cfg = s.cfg := rfl
@[simp] theorem clobberRx_status (s : State) : (clobberRx s).status = s.status := rfl
@[simp] theorem clobberRx_sess (s : State) : (clobberRx s).sess = s.sess := rfl
@[simp] theorem clobberRx_owned (s : State) : (clobberRx s).owned = s.owned := rfl
@[simp] theorem clobberRx_closeRcvd (s : State) : (clobberRx s).closeRcvd = s.closeRcvd := rfl
@[simp] theorem clobberRx_hsok (s : State) : (clobberRx s).hsok = s.hsok := rfl
@[simp] theorem clobberRx_released (s : State) : (clobberRx s).released = s.released := rfl
@[simp] theorem clobberRx_http (s : State) : (clobberRx s).http = s.http := rfl
@[simp] theorem clobberRx_rxb0 (s : State) : (clobberRx s).rxb0 = Config.freeValue s.cfg.freeSource 8 s.freeCount := rfl
@[simp] theorem clobberRx_rxb1 (s : State) : (clobberRx s).rxb1 = Config.freeValue s.cfg.freeSource 8 (s.freeCount + 1) := rfl
@[simp] theorem clobberRx_rxplen (s : State) : (clobberRx s).rxplen = Config.freeValue s.cfg.freeSource 32 (s.freeCount + 2) := rfl
@[simp] theorem clobberRx_rxmkey (s : State) : (clobberRx s).rxmkey = Config.freeValue s.cfg.freeSource 32 (s.freeCount + 3) := rfl
@[simp] theorem clobberRx_txopc (s : State) : (clobberRx s).txopc = s.txopc := rfl
@[simp] theorem clobberRx_txlen (s : State) : (clobberRx s).txlen = s.txlen := rfl
@[simp] theorem clobberRx_ccode (s : State) : (clobberRx s).ccode = s.ccode := rfl
@[simp] theorem clobberRx_hconnLen (s : State) : (clobberRx s).hconnLen = s.hconnLen := rfl
@[simp] theorem clobberRx_hupgLen (s : State) : (clobberRx s).hupgLen = s.hupgLen := rfl
@[simp] theorem clobberRx_hkeyLen (s : State) : (clobberRx s).hkeyLen = s.hkeyLen := rfl
@[simp] theorem clobberRx_pbuf (s : State) : (clobberRx s).pbuf = bufUnwritten s.cfg.freeSource (s.freeCount + 4) := rfl
@[simp] theorem clobberRx_txbuf (s : State) : (clobberRx s).txbuf = s.txbuf := rfl
@[simp] theorem clobberRx_hconn (s : State) : (clobberRx s).hconn = s.hconn := rfl
@[simp] theorem clobberRx_hupg (s : State) : (clobberRx s).hupg = s.hupg := rfl
@[simp] theorem clobberRx_hkey (s : State) : (clobberRx s).hkey = s.hkey := rfl
@[simp] theorem clobberRx_accept (s : State) : (clobberRx s).accept = s.accept := rfl
@[simp] theorem clobberRx_rx (s : State) : (clobberRx s).rx = s.rx := rfl
@[simp] theorem clobberRx_rxEnd (s : State) : (clobberRx s).rxEnd = s.rxEnd := rfl
@[simp] theorem clobberRx_rxPos (s : State) : (clobberRx s).rxPos = s.rxPos := rfl
@[simp] theorem clobberRx_tx (s : State) : (clobberRx s).tx = s.tx := rfl
@[simp] theorem clobberRx_engine (s : State) : (clobberRx s).engine = s.engine := rfl
@[simp] theorem clobberRx_events (s : State) : (clobberRx s).events = s.events := rfl
@[simp] theorem clobberRx_inputs (s : State) : (clobberRx s).inputs = s.inputs := rfl
@[simp] theorem clobberRx_txDraws (s : State) : (clobberRx s).txDraws = s.txDraws := rfl
@[simp] theorem clobberRx_drawCount (s : State) : (clobberRx s).drawCount = s.drawCount := rfl
@[simp] theorem clobberRx_freeCount (s : State) : (clobberRx s).freeCount = s.freeCount + 5 := rfl
@[simp] theorem clobberRx_hostData (s : State) : (clobberRx s).hostData = s.hostData := rfl

@[simp] theorem readAny_cfg (s : State) : (readAny s).cfg = s.cfg := rfl
@[simp] theorem readAny_status (s : State) : (readAny s).status = s.status := rfl
@[simp] theorem readAny_sess (s : State) : (readAny s).sess = s.sess := rfl
@[simp] theorem readAny_owned (s : State) : (readAny s).owned = s.owned := rfl
@[simp] theorem readAny_closeRcvd (s : State) : (readAny s).closeRcvd = s.closeRcvd := rfl
@[simp] theorem readAny_hsok (s : State) : (readAny s).hsok = s.hsok := rfl
@[simp] theorem readAny_released (s : State) : (readAny s).released = s.released := rfl
@[simp] theorem readAny_http (s : State) : (readAny s).http = s.http := rfl
@[simp] theorem readAny_rxb0 (s : State) : (readAny s).rxb0 = s.rxb0 := rfl
@[simp] theorem readAny_rxb1 (s : State) : (readAny s).rxb1 = s.rxb1 := rfl
@[simp] theorem readAny_rxplen (s : State) : (readAny s).rxplen = s.rxplen := rfl
@[simp] theorem readAny_rxmkey (s : State) : (readAny s).rxmkey = s.rxmkey := rfl
@[simp] theorem readAny_txopc (s : State) : (readAny s).txopc = s.txopc := rfl
@[simp] theorem readAny_txlen (s : State) : (readAny s).txlen = s.txlen := rfl
@[simp] theorem readAny_ccode (s : State) : (readAny s).ccode = s.ccode := rfl
@[simp] theorem readAny_hconnLen (s : State) : (readAny s).hconnLen = s.hconnLen := rfl
@[simp] theorem readAny_hupgLen (s : State) : (readAny s).hupgLen = s.hupgLen := rfl
@[simp] theorem readAny_hkeyLen (s : State) : (readAny s).hkeyLen = s.hkeyLen := rfl
@[simp] theorem readAny_pbuf (s : State) : (readAny s).pbuf = s.pbuf := rfl
@[simp] theorem readAny_txbuf (s : State) : (readAny s).txbuf = s.txbuf := rfl
@[simp] theorem readAny_hconn (s : State) : (readAny s).hconn = s.hconn := rfl
@[simp] theorem readAny_hupg (s : State) : (readAny s).hupg = s.hupg := rfl
@[simp] theorem readAny_hkey (s : State) : (readAny s).hkey = s.hkey := rfl
@[simp] theorem readAny_accept (s : State) : (readAny s).accept = s.accept := rfl
@[simp] theorem readAny_rx (s : State) : (readAny s).rx = s.rx := rfl
@[simp] theorem readAny_rxEnd (s : State) : (readAny s).rxEnd = s.rxEnd := rfl
@[simp] theorem readAny_rxPos (s : State) : (readAny s).rxPos = s.rxPos := rfl
@[simp] theorem readAny_tx (s : State) : (readAny s).tx = s.tx := rfl
@[simp] theorem readAny_engine (s : State) : (readAny s).engine = s.engine := rfl
@[simp] theorem readAny_events (s : State) : (readAny s).events = s.events := rfl
@[simp] theorem readAny_inputs (s : State) : (readAny s).inputs = s.inputs := rfl
@[simp] theorem readAny_txDraws (s : State) : (readAny s).txDraws = s.txDraws := rfl
@[simp] theorem readAny_drawCount (s : State) : (readAny s).drawCount = s.drawCount := rfl
@[simp] theorem readAny_freeCount (s : State) : (readAny s).freeCount = s.freeCount + 1 := rfl
@[simp] theorem readAny_hostData (s : State) : (readAny s).hostData = Config.freeValue s.cfg.freeSource 32 s.freeCount := rfl

@[simp] theorem takeRx_cfg (n : Nat) (s : State) : (takeRx n s).cfg = s.cfg := rfl
@[simp] theorem takeRx_status (n : Nat) (s : State) : (takeRx n s).status = s.status := rfl
@[simp] theorem takeRx_sess (n : Nat) (s : State) : (takeRx n s).sess = s.sess := rfl
@[simp] theorem takeRx_owned (n : Nat) (s : State) : (takeRx n s).owned = s.owned := rfl
@[simp] theorem takeRx_closeRcvd (n : Nat) (s : State) : (takeRx n s).closeRcvd = s.closeRcvd := rfl
@[simp] theorem takeRx_hsok (n : Nat) (s : State) : (takeRx n s).hsok = s.hsok := rfl
@[simp] theorem takeRx_released (n : Nat) (s : State) : (takeRx n s).released = s.released := rfl
@[simp] theorem takeRx_http (n : Nat) (s : State) : (takeRx n s).http = s.http := rfl
@[simp] theorem takeRx_rxb0 (n : Nat) (s : State) : (takeRx n s).rxb0 = s.rxb0 := rfl
@[simp] theorem takeRx_rxb1 (n : Nat) (s : State) : (takeRx n s).rxb1 = s.rxb1 := rfl
@[simp] theorem takeRx_rxplen (n : Nat) (s : State) : (takeRx n s).rxplen = s.rxplen := rfl
@[simp] theorem takeRx_rxmkey (n : Nat) (s : State) : (takeRx n s).rxmkey = s.rxmkey := rfl
@[simp] theorem takeRx_txopc (n : Nat) (s : State) : (takeRx n s).txopc = s.txopc := rfl
@[simp] theorem takeRx_txlen (n : Nat) (s : State) : (takeRx n s).txlen = s.txlen := rfl
@[simp] theorem takeRx_ccode (n : Nat) (s : State) : (takeRx n s).ccode = s.ccode := rfl
@[simp] theorem takeRx_hconnLen (n : Nat) (s : State) : (takeRx n s).hconnLen = s.hconnLen := rfl
@[simp] theorem takeRx_hupgLen (n : Nat) (s : State) : (takeRx n s).hupgLen = s.hupgLen := rfl
@[simp] theorem takeRx_hkeyLen (n : Nat) (s : State) : (takeRx n s).hkeyLen = s.hkeyLen := rfl
@[simp] theorem takeRx_pbuf (n : Nat) (s : State) : (takeRx n s).pbuf = s.pbuf := rfl
@[simp] theorem takeRx_txbuf (n : Nat) (s : State) : (takeRx n s).txbuf = s.txbuf := rfl
@[simp] theorem takeRx_hconn (n : Nat) (s : State) : (takeRx n s).hconn = s.hconn := rfl
@[simp] theorem takeRx_hupg (n : Nat) (s : State) : (takeRx n s).hupg = s.hupg := rfl
@[simp] theorem takeRx_hkey (n : Nat) (s : State) : (takeRx n s).hkey = s.hkey := rfl
@[simp] theorem takeRx_accept (n : Nat) (s : State) : (takeRx n s).accept = s.accept := rfl
@[simp] theorem takeRx_rx (n : Nat) (s : State) : (takeRx n s).rx = s.rx.drop n := rfl
@[simp] theorem takeRx_rxEnd (n : Nat) (s : State) : (takeRx n s).rxEnd = s.rxEnd := rfl
@[simp] theorem takeRx_rxPos (n : Nat) (s : State) : (takeRx n s).rxPos = s.rxPos + n := rfl
@[simp] theorem takeRx_tx (n : Nat) (s : State) : (takeRx n s).tx = s.tx := rfl
@[simp] theorem takeRx_engine (n : Nat) (s : State) : (takeRx n s).engine = s.engine := rfl
@[simp] theorem takeRx_events (n : Nat) (s : State) : (takeRx n s).events = s.events := rfl
@[simp] theorem takeRx_inputs (n : Nat) (s : State) : (takeRx n s).inputs = s.inputs := rfl
@[simp] theorem takeRx_txDraws (n : Nat) (s : State) : (takeRx n s).txDraws = s.txDraws := rfl
@[simp] theorem takeRx_drawCount (n : Nat) (s : State) : (takeRx n s).drawCount = s.drawCount := rfl
@[simp] theorem takeRx_freeCount (n : Nat) (s : State) : (takeRx n s).freeCount = s.freeCount := rfl
@[simp] theorem takeRx_hostData (n : Nat) (s : State) : (takeRx n s).hostData = s.hostData := rfl

@[simp] theorem storePayload_cfg (plen : Word) (p : List Byte) (s : State) : (storePayload plen p s).cfg = s.cfg := rfl
@[simp] theorem storePayload_status (plen : Word) (p : List Byte) (s : State) : (storePayload plen p s).status = s.status := rfl
@[simp] theorem storePayload_sess (plen : Word) (p : List Byte) (s : State) : (storePayload plen p s).sess = s.sess := rfl
@[simp] theorem storePayload_owned (plen : Word) (p : List Byte) (s : State) : (storePayload plen p s).owned = s.owned := rfl
@[simp] theorem storePayload_closeRcvd (plen : Word) (p : List Byte) (s : State) : (storePayload plen p s).closeRcvd = s.closeRcvd := rfl
@[simp] theorem storePayload_hsok (plen : Word) (p : List Byte) (s : State) : (storePayload plen p s).hsok = s.hsok := rfl
@[simp] theorem storePayload_released (plen : Word) (p : List Byte) (s : State) : (storePayload plen p s).released = s.released := rfl
@[simp] theorem storePayload_http (plen : Word) (p : List Byte) (s : State) : (storePayload plen p s).http = s.http := rfl
@[simp] theorem storePayload_rxb0 (plen : Word) (p : List Byte) (s : State) : (storePayload plen p s).rxb0 = s.rxb0 := rfl
@[simp] theorem storePayload_rxb1 (plen : Word) (p : List Byte) (s : State) : (storePayload plen p s).rxb1 = s.rxb1 := rfl
@[simp] theorem storePayload_rxplen (plen : Word) (p : List Byte) (s : State) : (storePayload plen p s).rxplen = plen := rfl
@[simp] theorem storePayload_rxmkey (plen : Word) (p : List Byte) (s : State) : (storePayload plen p s).rxmkey = s.rxmkey := rfl
@[simp] theorem storePayload_txopc (plen : Word) (p : List Byte) (s : State) : (storePayload plen p s).txopc = s.txopc := rfl
@[simp] theorem storePayload_txlen (plen : Word) (p : List Byte) (s : State) : (storePayload plen p s).txlen = s.txlen := rfl
@[simp] theorem storePayload_ccode (plen : Word) (p : List Byte) (s : State) : (storePayload plen p s).ccode = s.ccode := rfl
@[simp] theorem storePayload_hconnLen (plen : Word) (p : List Byte) (s : State) : (storePayload plen p s).hconnLen = s.hconnLen := rfl
@[simp] theorem storePayload_hupgLen (plen : Word) (p : List Byte) (s : State) : (storePayload plen p s).hupgLen = s.hupgLen := rfl
@[simp] theorem storePayload_hkeyLen (plen : Word) (p : List Byte) (s : State) : (storePayload plen p s).hkeyLen = s.hkeyLen := rfl
@[simp] theorem storePayload_pbuf (plen : Word) (p : List Byte) (s : State) : (storePayload plen p s).pbuf = bufFill s.pbuf 0 p := rfl
@[simp] theorem storePayload_txbuf (plen : Word) (p : List Byte) (s : State) : (storePayload plen p s).txbuf = s.txbuf := rfl
@[simp] theorem storePayload_hconn (plen : Word) (p : List Byte) (s : State) : (storePayload plen p s).hconn = s.hconn := rfl
@[simp] theorem storePayload_hupg (plen : Word) (p : List Byte) (s : State) : (storePayload plen p s).hupg = s.hupg := rfl
@[simp] theorem storePayload_hkey (plen : Word) (p : List Byte) (s : State) : (storePayload plen p s).hkey = s.hkey := rfl
@[simp] theorem storePayload_accept (plen : Word) (p : List Byte) (s : State) : (storePayload plen p s).accept = s.accept := rfl
@[simp] theorem storePayload_rx (plen : Word) (p : List Byte) (s : State) : (storePayload plen p s).rx = s.rx := rfl
@[simp] theorem storePayload_rxEnd (plen : Word) (p : List Byte) (s : State) : (storePayload plen p s).rxEnd = s.rxEnd := rfl
@[simp] theorem storePayload_rxPos (plen : Word) (p : List Byte) (s : State) : (storePayload plen p s).rxPos = s.rxPos := rfl
@[simp] theorem storePayload_tx (plen : Word) (p : List Byte) (s : State) : (storePayload plen p s).tx = s.tx := rfl
@[simp] theorem storePayload_engine (plen : Word) (p : List Byte) (s : State) : (storePayload plen p s).engine = s.engine := rfl
@[simp] theorem storePayload_events (plen : Word) (p : List Byte) (s : State) : (storePayload plen p s).events = s.events := rfl
@[simp] theorem storePayload_inputs (plen : Word) (p : List Byte) (s : State) : (storePayload plen p s).inputs = s.inputs := rfl
@[simp] theorem storePayload_txDraws (plen : Word) (p : List Byte) (s : State) : (storePayload plen p s).txDraws = s.txDraws := rfl
@[simp] theorem storePayload_drawCount (plen : Word) (p : List Byte) (s : State) : (storePayload plen p s).drawCount = s.drawCount := rfl
@[simp] theorem storePayload_freeCount (plen : Word) (p : List Byte) (s : State) : (storePayload plen p s).freeCount = s.freeCount := rfl
@[simp] theorem storePayload_hostData (plen : Word) (p : List Byte) (s : State) : (storePayload plen p s).hostData = s.hostData := rfl

@[simp] theorem setKey_cfg (k : List Byte) (s : State) : (setKey k s).cfg = s.cfg := rfl
@[simp] theorem setKey_status (k : List Byte) (s : State) : (setKey k s).status = s.status := rfl
@[simp] theorem setKey_sess (k : List Byte) (s : State) : (setKey k s).sess = s.sess := rfl
@[simp] theorem setKey_owned (k : List Byte) (s : State) : (setKey k s).owned = s.owned := rfl
@[simp] theorem setKey_closeRcvd (k : List Byte) (s : State) : (setKey k s).closeRcvd = s.closeRcvd := rfl
@[simp] theorem setKey_hsok (k : List Byte) (s : State) : (setKey k s).hsok = s.hsok := rfl
@[simp] theorem setKey_released (k : List Byte) (s : State) : (setKey k s).released = s.released := rfl
@[simp] theorem setKey_http (k : List Byte) (s : State) : (setKey k s).http = s.http := rfl
@[simp] theorem setKey_rxb0 (k : List Byte) (s : State) : (setKey k s).rxb0 = s.rxb0 := rfl
@[simp] theorem setKey_rxb1 (k : List Byte) (s : State) : (setKey k s).rxb1 = s.rxb1 := rfl
@[simp] theorem setKey_rxplen (k : List Byte) (s : State) : (setKey k s).rxplen = s.rxplen := rfl
@[simp] theorem setKey_rxmkey (k : List Byte) (s : State) : (setKey k s).rxmkey = BitVec.ofNat 32 (fromBE k) := rfl
@[simp] theorem setKey_txopc (k : List Byte) (s : State) : (setKey k s).txopc = s.txopc := rfl
@[simp] theorem setKey_txlen (k : List Byte) (s : State) : (setKey k s).txlen = s.txlen := rfl
@[simp] theorem setKey_ccode (k : List Byte) (s : State) : (setKey k s).ccode = s.ccode := rfl
@[simp] theorem setKey_hconnLen (k : List Byte) (s : State) : (setKey k s).hconnLen = s.hconnLen := rfl
@[simp] theorem setKey_hupgLen (k : List Byte) (s : State) : (setKey k s).hupgLen = s.hupgLen := rfl
@[simp] theorem setKey_hkeyLen (k : List Byte) (s : State) : (setKey k s).hkeyLen = s.hkeyLen := rfl
@[simp] theorem setKey_pbuf (k : List Byte) (s : State) : (setKey k s).pbuf = s.pbuf := rfl
@[simp] theorem setKey_txbuf (k : List Byte) (s : State) : (setKey k s).txbuf = s.txbuf := rfl
@[simp] theorem setKey_hconn (k : List Byte) (s : State) : (setKey k s).hconn = s.hconn := rfl
@[simp] theorem setKey_hupg (k : List Byte) (s : State) : (setKey k s).hupg = s.hupg := rfl
@[simp] theorem setKey_hkey (k : List Byte) (s : State) : (setKey k s).hkey = s.hkey := rfl
@[simp] theorem setKey_accept (k : List Byte) (s : State) : (setKey k s).accept = s.accept := rfl
@[simp] theorem setKey_rx (k : List Byte) (s : State) : (setKey k s).rx = s.rx := rfl
@[simp] theorem setKey_rxEnd (k : List Byte) (s : State) : (setKey k s).rxEnd = s.rxEnd := rfl
@[simp] theorem setKey_rxPos (k : List Byte) (s : State) : (setKey k s).rxPos = s.rxPos := rfl
@[simp] theorem setKey_tx (k : List Byte) (s : State) : (setKey k s).tx = s.tx := rfl
@[simp] theorem setKey_engine (k : List Byte) (s : State) : (setKey k s).engine = s.engine := rfl
@[simp] theorem setKey_events (k : List Byte) (s : State) : (setKey k s).events = s.events := rfl
@[simp] theorem setKey_inputs (k : List Byte) (s : State) : (setKey k s).inputs = s.inputs := rfl
@[simp] theorem setKey_txDraws (k : List Byte) (s : State) : (setKey k s).txDraws = s.txDraws := rfl
@[simp] theorem setKey_drawCount (k : List Byte) (s : State) : (setKey k s).drawCount = s.drawCount := rfl
@[simp] theorem setKey_freeCount (k : List Byte) (s : State) : (setKey k s).freeCount = s.freeCount := rfl
@[simp] theorem setKey_hostData (k : List Byte) (s : State) : (setKey k s).hostData = s.hostData := rfl

/-! ### `STATE` as the host reads it -/

/-- Outside the wait in a close reply the host reads the fields as they stand. -/
theorem stateSeen_eq (s : State) (h : ∀ job, s.engine ≠ .reply job) : stateSeen s = stateReg s := by
  have hc : closeRcvdSeen s = s.closeRcvd := by
    unfold closeRcvdSeen
    split <;> simp_all
  simp [stateSeen, hc]

/-- In that wait it reads `CLOSE_RCVD` as before the command. -/
theorem stateSeen_reply (s : State) (job : TxJob) (h : s.engine = .reply job) :
    stateSeen s = stateReg { s with closeRcvd := false } := by
  simp [stateSeen, closeRcvdSeen, h]

end Sys2Proof.Machine
end

