-- ==== Sys2Proof/Laws/Streams.lean ====
section
/-! SUPPORT. What each stream operation can do, said once: `RxRead`, `TxWrite`, `CloseSession`, error entry. -/

namespace Sys2Proof.Machine

/-- `RxRead` succeeds exactly when enough bytes have arrived, and then takes them in order. -/
theorem rxRead_got {n : Nat} {sofar bs : List Byte} {s t : State} (h : rxRead n sofar s = .got bs t) :
    n - sofar.length ≤ s.rx.length ∧ bs = sofar ++ s.rx.take (n - sofar.length) ∧ t = takeRx (n - sofar.length) s := by
  unfold rxRead at h
  split_ifs at h with h1 h2
  cases h
  exact ⟨h1, rfl, rfl⟩

theorem rxRead_waiting {n : Nat} {sofar bs : List Byte} {s t : State} (h : rxRead n sofar s = .waiting bs t) :
    s.rx.length < n - sofar.length ∧ s.rxEnd = .opened ∧ bs = sofar ++ s.rx ∧ t = takeRx s.rx.length s := by
  unfold rxRead at h
  split_ifs at h with h1 h2
  cases h
  exact ⟨Nat.lt_of_not_le h1, h2, rfl, rfl⟩

theorem rxRead_truncated {n : Nat} {sofar : List Byte} {s t : State} (h : rxRead n sofar s = .truncated t) :
    s.rx.length < n - sofar.length ∧ s.rxEnd ≠ .opened ∧ t = takeRx s.rx.length s := by
  unfold rxRead at h
  split_ifs at h with h1 h2
  cases h
  exact ⟨Nat.lt_of_not_le h1, h2, rfl⟩

/-- Enough bytes: `RxRead` takes them. -/
theorem rxRead_enough {n : Nat} {sofar : List Byte} {s : State} (h : n - sofar.length ≤ s.rx.length) :
    rxRead n sofar s = .got (sofar ++ s.rx.take (n - sofar.length)) (takeRx (n - sofar.length) s) := by
  simp [rxRead, h]

/-- Too few bytes on an open stream: `RxRead` waits with what there is. -/
theorem rxRead_short_opened {n : Nat} {sofar : List Byte} {s : State} (h : s.rx.length < n - sofar.length)
    (ho : s.rxEnd = .opened) : rxRead n sofar s = .waiting (sofar ++ s.rx) (takeRx s.rx.length s) := by
  simp [rxRead, Nat.not_le_of_lt h, ho]

/-- Too few bytes on a stream that ended or failed: `IOTruncated`. -/
theorem rxRead_short_ended {n : Nat} {sofar : List Byte} {s : State} (h : s.rx.length < n - sofar.length)
    (ho : s.rxEnd ≠ .opened) : rxRead n sofar s = .truncated (takeRx s.rx.length s) := by
  simp [rxRead, Nat.not_le_of_lt h, ho]

/-- Taking a draw changes nothing but the draws. -/
theorem dropDraw_eq (s : State) :
    dropDraw s = { s with txDraws := (dropDraw s).txDraws, drawCount := (dropDraw s).drawCount } := by
  unfold dropDraw
  split <;> rfl

/-- Whatever `TxWrite` does, it changes only TX, the events and the draws, and appends a prefix of its bytes. -/
theorem txWrite_cases (bs : List Byte) (s : State) :
    (nextDraw s = .ok ∧ txWrite bs s = .ok (txAppend bs (dropDraw s))) ∨
    (∃ k, nextDraw s = .fail k ∧ txWrite bs s = .failed (txAppend (bs.take k) (dropDraw s))) ∨
    (∃ k, nextDraw s = .stall k ∧ txWrite bs s = .waiting (bs.drop k) (txAppend (bs.take k) (dropDraw s))) := by
  unfold txWrite
  cases h : nextDraw s with
  | ok => exact .inl ⟨rfl, rfl⟩
  | fail k => exact .inr (.inl ⟨k, rfl, rfl⟩)
  | stall k => exact .inr (.inr ⟨k, rfl, rfl⟩)

/-- A stated draw is the one a write takes. -/
@[simp] theorem nextDraw_cons (s : State) (d : TxDraw) (ds : List TxDraw) (h : s.txDraws = d :: ds) :
    nextDraw s = d := by
  simp [nextDraw, h]

theorem dropDraw_cons {s : State} {d : TxDraw} {ds : List TxDraw} (h : s.txDraws = d :: ds) :
    dropDraw s = { s with txDraws := ds } := by
  simp [dropDraw, h]

/-- `CloseSession` on an owned stream: one release event. -/
theorem closeSession_owned {s : State} (h : s.owned = true) :
    closeSession s =
      { s with sess := .closed, owned := false, released := true, events := s.events ++ [.release] } := by
  simp [closeSession, h]

theorem closeSession_not_owned {s : State} (h : s.owned = false) : closeSession s = { s with sess := .closed } := by
  simp [closeSession, h]

/-- Error entry on an owned stream, whole (60 R313). -/
theorem failSession_owned (e : Status) {s : State} (h : s.owned = true) :
    failSession e s =
      { s with
        status := e, engine := .idle, sess := .closed, owned := false, released := true
        events := s.events ++ [.log e] ++ [.release] } := by
  simp [failSession, closeSession, logEvent, complete, h]

theorem failSession_not_owned (e : Status) {s : State} (h : s.owned = false) :
    failSession e s =
      { s with status := e, engine := .idle, sess := .closed, events := s.events ++ [.log e] } := by
  simp [failSession, closeSession, logEvent, complete, h]

end Sys2Proof.Machine
end

