-- ==== Sys2Proof/Laws/Codec.lean ====
section
/-! SUPPORT. What `DecodeFrame` and `EncodeFrame` can change, that they do not look at the hidden position of
the command, and one loop iteration as an equation. -/

namespace Sys2Proof.Machine

/-- `t` is `s` but for what `DecodeFrame` may write (42 R210, R226). -/
def SameButRx (s t : State) : Prop :=
  t = { s with
    rx := t.rx, rxPos := t.rxPos, rxb0 := t.rxb0, rxb1 := t.rxb1, rxplen := t.rxplen, rxmkey := t.rxmkey
    pbuf := t.pbuf, freeCount := t.freeCount }

/-- `t` is `s` but for what `EncodeFrame` may write (43 R240): TX, the events and the draws. -/
def SameButTx (s t : State) : Prop :=
  t = { s with tx := t.tx, events := t.events, txDraws := t.txDraws, drawCount := t.drawCount }

theorem SameButRx.trans {s t u : State} (h : SameButRx s t) (h' : SameButRx t u) : SameButRx s u := by
  unfold SameButRx at *
  rw [h'] at *
  rw [h]

theorem SameButTx.trans {s t u : State} (h : SameButTx s t) (h' : SameButTx t u) : SameButTx s u := by
  unfold SameButTx at *
  rw [h'] at *
  rw [h]

theorem takeRx_same (n : Nat) (s : State) : SameButRx s (takeRx n s) := rfl

theorem setHeader_same (b0 b1 : Byte) (s : State) : SameButRx s (setHeader b0 b1 s) := rfl

theorem setKey_same (k : List Byte) (s : State) : SameButRx s (setKey k s) := rfl

theorem clobberRx_same (s : State) : SameButRx s (clobberRx s) := rfl

theorem storePayload_same (plen : Word) (p : List Byte) (s : State) : SameButRx s (storePayload plen p s) := rfl

theorem txAppend_dropDraw_same (bs : List Byte) (s : State) : SameButTx s (txAppend bs (dropDraw s)) := by
  unfold SameButTx
  rw [dropDraw_eq s]
  rfl

/-- The state a decode result carries. -/
def decState : DecResult → Option State
  | .frame _ _ s => some s
  | .close s => some s
  | .err _ s => some s
  | .waiting _ _ s => some s
  | .overCap => none

/-- The state an encode result carries. -/
def encState : EncResult → State
  | .ok s => s
  | .ioError s => s
  | .waiting _ s => s

theorem finishPayload_same {plen : Word} {raw : List Byte} {s t : State}
    (h : decState (finishPayload plen raw s) = some t) : SameButRx s t := by
  unfold finishPayload at h
  split_ifs at h <;> cases h <;> exact storePayload_same _ _ _

theorem truncatedFrame_same {s t : State} (h : decState (truncatedFrame s) = some t) : SameButRx s t := by
  cases h
  exact clobberRx_same s

theorem readPayload_same {plen : Word} {got : List Byte} {s t : State}
    (h : decState (readPayload plen got s) = some t) : SameButRx s t := by
  unfold readPayload at h
  split at h
  · rename_i hr
    obtain ⟨-, -, rfl⟩ := rxRead_got hr
    exact (takeRx_same _ s).trans (finishPayload_same h)
  · rename_i hr
    obtain ⟨-, -, rfl⟩ := rxRead_truncated hr
    exact (takeRx_same _ s).trans (truncatedFrame_same h)
  · rename_i hr
    obtain ⟨-, -, -, rfl⟩ := rxRead_waiting hr
    cases h
    exact takeRx_same _ s

theorem readKey_same {plen : Word} {got : List Byte} {s t : State}
    (h : decState (readKey plen got s) = some t) : SameButRx s t := by
  unfold readKey at h
  split at h
  · rename_i hr
    obtain ⟨-, -, rfl⟩ := rxRead_got hr
    exact ((takeRx_same _ s).trans (setKey_same _ _)).trans (readPayload_same h)
  · rename_i hr
    obtain ⟨-, -, rfl⟩ := rxRead_truncated hr
    exact (takeRx_same _ s).trans (truncatedFrame_same h)
  · rename_i hr
    obtain ⟨-, -, -, rfl⟩ := rxRead_waiting hr
    cases h
    exact takeRx_same _ s

theorem afterLength_same {plen : Word} {s t : State} (h : decState (afterLength plen s) = some t) :
    SameButRx s t := by
  unfold afterLength at h
  split_ifs at h
  · cases h
  · exact readKey_same h
  · exact readPayload_same h

theorem readExt_same {got : List Byte} {s t : State} (h : decState (readExt got s) = some t) : SameButRx s t := by
  unfold readExt at h
  split at h
  · rename_i hr
    obtain ⟨-, -, rfl⟩ := rxRead_got hr
    exact (takeRx_same _ s).trans (afterLength_same h)
  · rename_i hr
    obtain ⟨-, -, rfl⟩ := rxRead_truncated hr
    exact (takeRx_same _ s).trans (truncatedFrame_same h)
  · rename_i hr
    obtain ⟨-, -, -, rfl⟩ := rxRead_waiting hr
    cases h
    exact takeRx_same _ s

theorem afterHeader_same {b0 b1 : Byte} {s t : State} (h : decState (afterHeader b0 b1 s) = some t) :
    SameButRx s t := by
  unfold afterHeader at h
  split_ifs at h
  · cases h
    rfl
  · exact (setHeader_same b0 b1 s).trans (readExt_same h)

theorem decodeFrame_same {got : List Byte} {s t : State} (h : decState (decodeFrame got s) = some t) :
    SameButRx s t := by
  unfold decodeFrame at h
  split at h
  · rename_i hr
    obtain ⟨-, -, rfl⟩ := rxRead_got hr
    exact (takeRx_same _ s).trans (afterHeader_same h)
  · rename_i hr
    obtain ⟨-, -, rfl⟩ := rxRead_truncated hr
    exact (takeRx_same _ s).trans (truncatedFrame_same h)
  · rename_i hr
    obtain ⟨-, -, -, rfl⟩ := rxRead_waiting hr
    cases h
    exact takeRx_same _ s

/-- Whatever `DecodeFrame` answers, from whichever read it goes on, it changes only the receive side. -/
theorem resumeDecode_same {phase : RxPhase} {got : List Byte} {s t : State}
    (h : decState (resumeDecode phase got s) = some t) : SameButRx s t := by
  cases phase with
  | hdr => exact decodeFrame_same h
  | ext => exact readExt_same h
  | key plen => exact readKey_same h
  | pay plen => exact readPayload_same h

theorem writePayload_same (rest : List Byte) (s : State) : SameButTx s (encState (writePayload rest s)) := by
  unfold writePayload
  rcases txWrite_cases rest s with ⟨-, h⟩ | ⟨k, -, h⟩ | ⟨k, -, h⟩ <;> rw [h] <;> exact txAppend_dropDraw_same _ s

theorem writeHeader_same (rest payload : List Byte) (s : State) :
    SameButTx s (encState (writeHeader rest payload s)) := by
  unfold writeHeader
  rcases txWrite_cases rest s with ⟨-, h⟩ | ⟨k, -, h⟩ | ⟨k, -, h⟩ <;> rw [h]
  · exact (txAppend_dropDraw_same _ s).trans (writePayload_same payload _)
  · exact txAppend_dropDraw_same _ s
  · exact txAppend_dropDraw_same _ s

theorem encodeFrame_same (opcode : BitVec 4) (payload : List Byte) (s : State) :
    SameButTx s (encState (encodeFrame opcode payload s)) := writeHeader_same _ _ s

/-- Whatever `EncodeFrame` answers, from whichever write it goes on, it changes only the transmit side. -/
theorem resumeEncode_same (job : TxJob) (s : State) : SameButTx s (encState (resumeEncode job s)) := by
  cases job with
  | header rest payload => exact writeHeader_same rest payload s
  | payload rest => exact writePayload_same rest s

/-- Both writes succeed: the whole frame is on TX (43 R240, R244, R251). -/
theorem encodeFrame_ok (opcode : BitVec 4) (payload : List Byte) {s : State} {ds : List TxDraw}
    (h : s.txDraws = .ok :: .ok :: ds) :
    encodeFrame opcode payload s =
      .ok (txAppend payload (txAppend (encodeHeader opcode (BitVec.ofNat 32 payload.length)) { s with txDraws := ds })) := by
  simp [encodeFrame, writeHeader, writePayload, txWrite, nextDraw, dropDraw, h, txAppend]

/-! ### The header fields and the dispatch -/

/-- A byte is its header fields (30 R101). -/
theorem headerByte0_fields (b0 : Byte) : headerByte0 (headerFin b0) (headerRsv b0) (headerOpcode b0) = b0 := by
  revert b0
  decide

/-- A byte is its header fields (30 R102). -/
theorem headerByte1_fields (b1 : Byte) : headerByte1 (headerMasked b1) (headerLen7 b1) = b1 := by
  revert b1
  decide

theorem headerFin_byte0 (f : Bool) (r : BitVec 3) (o : BitVec 4) : headerFin (headerByte0 f r o) = f := by
  revert f r o
  decide

theorem headerRsv_byte0 (f : Bool) (r : BitVec 3) (o : BitVec 4) : headerRsv (headerByte0 f r o) = r := by
  revert f r o
  decide

theorem headerOpcode_byte0 (f : Bool) (r : BitVec 3) (o : BitVec 4) : headerOpcode (headerByte0 f r o) = o := by
  revert f r o
  decide

theorem headerMasked_byte1 (m : Bool) (l : BitVec 7) : headerMasked (headerByte1 m l) = m := by
  revert m l
  decide

theorem headerLen7_byte1 (m : Bool) (l : BitVec 7) : headerLen7 (headerByte1 m l) = l := by
  revert m l
  decide

/-- Dispatch on a frame instruction is one shared meaning, whatever the opcode (44 section 4). -/
theorem dispatchFrame_frameOf (o : BitVec 4) (f : Bool) (r : BitVec 3) (m : Bool) (l : BitVec 7) (s : State) :
    dispatchFrame (frameOf o f r m l) s = runFrame o f r m l s := by
  have h : ∀ o : BitVec 4, o = 0 ∨ o = 1 ∨ o = 2 ∨ o = 3 ∨ o = 4 ∨ o = 5 ∨ o = 6 ∨ o = 7 ∨ o = 8 ∨ o = 9 ∨ o = 10 ∨
      o = 11 ∨ o = 12 ∨ o = 13 ∨ o = 14 ∨ o = 15 := by decide
  rcases h o with rfl | rfl | rfl | rfl | rfl | rfl | rfl | rfl | rfl | rfl | rfl | rfl | rfl | rfl | rfl | rfl <;> rfl

/-- The frame instruction of a header does the rest of the iteration. -/
theorem dispatchFrame_header (b0 b1 : Byte) (s : State) :
    dispatchFrame (decodeFrameHeader b0 b1) s =
      if mayDecode s then finishFrame (loopOf s) (afterHeader b0 b1 s) else .next (illegalState s) := by
  rw [decodeFrameHeader, dispatchFrame_frameOf, runFrame, headerByte0_fields, headerByte1_fields]

/-! ### The hidden position is not looked at -/

/-- A decode result with another hidden position. -/
def decAt (e : Engine) : DecResult → DecResult
  | .frame o p s => .frame o p { s with engine := e }
  | .close s => .close { s with engine := e }
  | .err x s => .err x { s with engine := e }
  | .waiting ph g s => .waiting ph g { s with engine := e }
  | .overCap => .overCap

theorem readPayload_at (e : Engine) (plen : Word) (got : List Byte) (s : State) :
    readPayload plen got { s with engine := e } = decAt e (readPayload plen got s) := by
  unfold readPayload rxRead
  split_ifs <;> simp only [takeRx]
  · unfold finishPayload
    split_ifs <;> rfl
  · rfl
  · rfl

theorem readKey_at (e : Engine) (plen : Word) (got : List Byte) (s : State) :
    readKey plen got { s with engine := e } = decAt e (readKey plen got s) := by
  unfold readKey rxRead
  split_ifs <;> simp only [takeRx]
  · rw [← readPayload_at]
    rfl
  · rfl
  · rfl

theorem afterLength_at (e : Engine) (plen : Word) (s : State) :
    afterLength plen { s with engine := e } = decAt e (afterLength plen s) := by
  unfold afterLength
  split_ifs
  · rfl
  · exact readKey_at e plen [] s
  · exact readPayload_at e plen [] s

theorem readExt_at (e : Engine) (got : List Byte) (s : State) :
    readExt got { s with engine := e } = decAt e (readExt got s) := by
  unfold readExt rxRead
  split_ifs <;> simp only [takeRx]
  · rw [← afterLength_at]
  · rfl
  · rfl

theorem afterHeader_at (e : Engine) (b0 b1 : Byte) (s : State) :
    afterHeader b0 b1 { s with engine := e } = decAt e (afterHeader b0 b1 s) := by
  unfold afterHeader
  split_ifs
  · rfl
  · rw [← readExt_at]
    rfl

theorem txWrite_at (e : Engine) (bs : List Byte) (s : State) :
    txWrite bs { s with engine := e } =
      match txWrite bs s with
      | .ok t => .ok { t with engine := e }
      | .failed t => .failed { t with engine := e }
      | .waiting r t => .waiting r { t with engine := e } := by
  unfold txWrite nextDraw dropDraw txAppend
  cases h : s.txDraws with
  | nil =>
    simp only []
    cases Config.freeTxDraw s.cfg.freeSource s.drawCount <;> rfl
  | cons d ds => cases d <;> rfl

/-- An encode result with another hidden position. -/
def encAt (e : Engine) : EncResult → EncResult
  | .ok s => .ok { s with engine := e }
  | .ioError s => .ioError { s with engine := e }
  | .waiting j s => .waiting j { s with engine := e }

theorem writePayload_at (e : Engine) (rest : List Byte) (s : State) :
    writePayload rest { s with engine := e } = encAt e (writePayload rest s) := by
  unfold writePayload
  rw [txWrite_at]
  cases txWrite rest s <;> rfl

theorem encodeFrame_at (e : Engine) (o : BitVec 4) (p : List Byte) (s : State) :
    encodeFrame o p { s with engine := e } = encAt e (encodeFrame o p s) := by
  unfold encodeFrame writeHeader
  rw [txWrite_at]
  cases txWrite _ s with
  | ok t => exact writePayload_at e p t
  | failed t => rfl
  | waiting r t => rfl

theorem failSession_at (e : Engine) (x : Status) (s : State) : failSession x { s with engine := e } = failSession x s := by
  cases h : s.owned <;> simp [failSession, closeSession, logEvent, complete, h]

theorem finishFrame_at (e : Engine) (l : Loop) (r : DecResult) : finishFrame l (decAt e r) = finishFrame l r := by
  cases r with
  | frame o p s =>
    simp only [decAt, finishFrame, encodeFrame_at]
    cases encodeFrame o p s with
    | ok t => rfl
    | ioError t => simp only [encAt, finishEcho, failSession_at]
    | waiting j t => rfl
  | close s =>
    have h := encodeFrame_at e 8 (be16 s.cfg.closeReplyCode ++ closeReplyReason) { s with closeRcvd := true }
    dsimp only at h
    simp only [decAt, finishFrame, encodeClose, h]
    cases encodeFrame 8 (be16 s.cfg.closeReplyCode ++ closeReplyReason) { s with closeRcvd := true } with
    | ok t => rfl
    | ioError t => simp only [encAt, finishReply, failSession_at]
    | waiting j t => rfl
  | err x s => simp only [decAt, finishFrame, failSession_at]
  | waiting ph g s => rfl
  | overCap => rfl

/-- One loop iteration is `DecodeFrame` followed by the dispatch of 44 R268. -/
theorem iterate_eq (l : Loop) (got : List Byte) {s : State} (h : mayDecode s = true) :
    iterate l got s = finishFrame l (decodeFrame got s) := by
  unfold iterate decodeFrame
  cases hr : rxRead 2 got s with
  | got hd s' =>
    obtain ⟨-, -, rfl⟩ := rxRead_got hr
    simp only []
    rw [dispatchFrame_header, atHeader, afterHeader_at]
    have hm : mayDecode { takeRx (2 - got.length) s with engine := .frame l .hdr [] } = true := h
    have hl : loopOf { takeRx (2 - got.length) s with engine := .frame l .hdr [] } = l := by cases l <;> rfl
    rw [if_pos hm, hl, finishFrame_at]
  | truncated s' => rfl
  | waiting g s' => rfl

end Sys2Proof.Machine
end

