-- ==== Sys2Proof/Laws/PerInstr.lean ====
section
/-! SUPPORT. Per-instruction families: the number of bytes an instruction is encoded in (30 R117, R103). -/

namespace Sys2Proof.Laws.EncodedLength

/-- A command is one byte (30 R117), the header a frame instruction stands for is two (30 R103). -/
def Statement (i : Instr) : Prop :=
  (encode i).length = match i.space with | .command => 1 | .frame => 2

theorem nop : Statement .nop := rfl
theorem hsderive : Statement .hsderive := rfl
theorem takeok : Statement .takeok := rfl
theorem takefail : Statement .takefail := rfl
theorem decode : Statement .decode := rfl
theorem encode : Statement .encode := rfl
theorem encclose : Statement .encclose := rfl
theorem step : Statement .step := rfl
theorem run : Statement .run := rfl
theorem release : Statement .release := rfl
theorem reservedLowA (w : Byte) : Statement (.reservedLowA w) := rfl
theorem reservedLowC (w : Byte) : Statement (.reservedLowC w) := rfl
theorem reservedBit4 (w : Byte) : Statement (.reservedBit4 w) := rfl
theorem reservedBit5 (w : Byte) : Statement (.reservedBit5 w) := rfl
theorem reservedBit6 (w : Byte) : Statement (.reservedBit6 w) := rfl
theorem reservedBit7 (w : Byte) : Statement (.reservedBit7 w) := rfl
theorem frameCont (f : Bool) (r : BitVec 3) (m : Bool) (l : BitVec 7) : Statement (.frameCont f r m l) := rfl
theorem frameText (f : Bool) (r : BitVec 3) (m : Bool) (l : BitVec 7) : Statement (.frameText f r m l) := rfl
theorem frameBinary (f : Bool) (r : BitVec 3) (m : Bool) (l : BitVec 7) : Statement (.frameBinary f r m l) := rfl
theorem frameRsvd3 (f : Bool) (r : BitVec 3) (m : Bool) (l : BitVec 7) : Statement (.frameRsvd3 f r m l) := rfl
theorem frameRsvd4 (f : Bool) (r : BitVec 3) (m : Bool) (l : BitVec 7) : Statement (.frameRsvd4 f r m l) := rfl
theorem frameRsvd5 (f : Bool) (r : BitVec 3) (m : Bool) (l : BitVec 7) : Statement (.frameRsvd5 f r m l) := rfl
theorem frameRsvd6 (f : Bool) (r : BitVec 3) (m : Bool) (l : BitVec 7) : Statement (.frameRsvd6 f r m l) := rfl
theorem frameRsvd7 (f : Bool) (r : BitVec 3) (m : Bool) (l : BitVec 7) : Statement (.frameRsvd7 f r m l) := rfl
theorem frameClose (f : Bool) (r : BitVec 3) (m : Bool) (l : BitVec 7) : Statement (.frameClose f r m l) := rfl
theorem framePing (f : Bool) (r : BitVec 3) (m : Bool) (l : BitVec 7) : Statement (.framePing f r m l) := rfl
theorem framePong (f : Bool) (r : BitVec 3) (m : Bool) (l : BitVec 7) : Statement (.framePong f r m l) := rfl
theorem frameRsvdB (f : Bool) (r : BitVec 3) (m : Bool) (l : BitVec 7) : Statement (.frameRsvdB f r m l) := rfl
theorem frameRsvdC (f : Bool) (r : BitVec 3) (m : Bool) (l : BitVec 7) : Statement (.frameRsvdC f r m l) := rfl
theorem frameRsvdD (f : Bool) (r : BitVec 3) (m : Bool) (l : BitVec 7) : Statement (.frameRsvdD f r m l) := rfl
theorem frameRsvdE (f : Bool) (r : BitVec 3) (m : Bool) (l : BitVec 7) : Statement (.frameRsvdE f r m l) := rfl
theorem frameRsvdF (f : Bool) (r : BitVec 3) (m : Bool) (l : BitVec 7) : Statement (.frameRsvdF f r m l) := rfl

end Sys2Proof.Laws.EncodedLength
end

