-- ==== Sys2Proof/Tests/Slice0.lean ====
section
/-! SUPPORT. Tests of the model on the spec's own vectors (spec/95 and the examples of 44 section 4), each one
step; the smoke tests of WellFormed; and, for each statement with hypotheses, a state and operands that meet them. -/

namespace Sys2Proof.Tests

open Sys2Proof Sys2Proof.Machine

/-! ### WellFormed refuses what is no instruction -/

theorem test_wellFormed_lowA : (Instr.reservedLowA 0x0C).wellFormed = false := by decide
theorem test_wellFormed_lowC : (Instr.reservedLowC 0x10).wellFormed = false := by decide
theorem test_wellFormed_bit4 : (Instr.reservedBit4 0x2F).wellFormed = false := by decide
theorem test_wellFormed_bit5 : (Instr.reservedBit5 0x30).wellFormed = false := by decide
theorem test_wellFormed_bit6 : (Instr.reservedBit6 0x60).wellFormed = false := by decide
theorem test_wellFormed_bit7 : (Instr.reservedBit7 0xC0).wellFormed = false := by decide
theorem test_wellFormed_accepts : (Instr.reservedBit7 0x80).wellFormed = true ∧ Instr.nop.wellFormed = true := by decide

/-! ### Words written out bit by bit -/

/-- 30 R111: every command word. -/
theorem test_decode_commands :
    decode .command [0b00000000] = .ok (.nop, []) ∧ decode .command [0b00000001] = .ok (.hsderive, []) ∧
    decode .command [0b00000010] = .ok (.takeok, []) ∧ decode .command [0b00000011] = .ok (.takefail, []) ∧
    decode .command [0b00000100] = .ok (.decode, []) ∧ decode .command [0b00000101] = .ok (.encode, []) ∧
    decode .command [0b00000110] = .ok (.encclose, []) ∧ decode .command [0b00000111] = .ok (.step, []) ∧
    decode .command [0b00001000] = .ok (.run, []) ∧ decode .command [0b00001001] = .ok (.release, []) := by
  refine ⟨rfl, rfl, rfl, rfl, rfl, rfl, rfl, rfl, rfl, rfl⟩

/-- 30 R112, R118: a word of each reserved row. -/
theorem test_decode_reserved :
    decode .command [0b00001011] = .ok (.reservedLowA 0x0B, []) ∧
    decode .command [0b00001101] = .ok (.reservedLowC 0x0D, []) ∧
    decode .command [0b11111010] = .ok (.reservedBit4 0xFA, []) ∧
    decode .command [0b00100111] = .ok (.reservedBit5 0x27, []) ∧
    decode .command [0b11000001] = .ok (.reservedBit6 0xC1, []) ∧
    decode .command [0b10000100] = .ok (.reservedBit7 0x84, []) := by
  refine ⟨rfl, rfl, rfl, rfl, rfl, rfl⟩

/-- 30 R101, R102, R104: a header of each opcode, `fin`, RSV, `MASK` and `LEN7` written out; the next byte is
left over. -/
theorem test_decode_frames :
    decode .frame [0b10000000, 0b00000001, 9] = .ok (.frameCont true 0 false 1, [9]) ∧
    decode .frame [0b00010001, 0b10000101, 9] = .ok (.frameText false 1 true 5, [9]) ∧
    decode .frame [0b11110010, 0b01111110, 9] = .ok (.frameBinary true 7 false 126, [9]) ∧
    decode .frame [0b10000011, 0b11111111, 9] = .ok (.frameRsvd3 true 0 true 127, [9]) ∧
    decode .frame [0b10000100, 0b00000000, 9] = .ok (.frameRsvd4 true 0 false 0, [9]) ∧
    decode .frame [0b10000101, 0b00000000, 9] = .ok (.frameRsvd5 true 0 false 0, [9]) ∧
    decode .frame [0b11000110, 0b00000000, 9] = .ok (.frameRsvd6 true 4 false 0, [9]) ∧
    decode .frame [0b10000111, 0b00000000, 9] = .ok (.frameRsvd7 true 0 false 0, [9]) ∧
    decode .frame [0b10001000, 0b10000010, 9] = .ok (.frameClose true 0 true 2, [9]) ∧
    decode .frame [0b10001001, 0b10000000, 9] = .ok (.framePing true 0 true 0, [9]) ∧
    decode .frame [0b10001010, 0b00000000, 9] = .ok (.framePong true 0 false 0, [9]) ∧
    decode .frame [0b10101011, 0b00000000, 9] = .ok (.frameRsvdB true 2 false 0, [9]) ∧
    decode .frame [0b00001100, 0b01111101, 9] = .ok (.frameRsvdC false 0 false 125, [9]) ∧
    decode .frame [0b10001101, 0b00000000, 9] = .ok (.frameRsvdD true 0 false 0, [9]) ∧
    decode .frame [0b10001110, 0b00000000, 9] = .ok (.frameRsvdE true 0 false 0, [9]) ∧
    decode .frame [0b10001111, 0b00000000, 9] = .ok (.frameRsvdF true 0 false 0, [9]) := by
  refine ⟨rfl, rfl, rfl, rfl, rfl, rfl, rfl, rfl, rfl, rfl, rfl, rfl, rfl, rfl, rfl, rfl⟩

theorem test_decode_short :
    decode .frame [0x81] = .error .shortFrameHeader ∧ decode .command [] = .error .noCommandWord := ⟨rfl, rfl⟩

/-- The words of 30 R111 and of header byte 0, as the opcode table numbers their bits. -/
theorem test_table_words :
    decodeTableWord 8 0x07 = some .step ∧ decodeTableWord 8 0x1A = some (.reservedBit4 0x1A) ∧
    decodeTableWord 16 0x8581 = some (.frameText true 0 true 5) := by decide

/-! ### Units -/

/-- 95 section 2.1. -/
theorem test_lenEncode :
    lenEncode 0 = [0x00] ∧ lenEncode 125 = [0x7d] ∧ lenEncode 126 = [0x7e, 0x00, 0x7e] ∧
    lenEncode 65535 = [0x7e, 0xff, 0xff] ∧ lenEncode 65536 = [0x7f, 0, 0, 0, 0, 0, 1, 0, 0] ∧
    lenEncode 4294967295 = [0x7f, 0, 0, 0, 0, 0xff, 0xff, 0xff, 0xff] := by decide

/-- 95 section 2.1. -/
theorem test_lenDecode :
    lenDecode 125 [] = 125 ∧ lenDecode 126 [0x00, 0x7d] = 125 ∧ lenDecode 126 [0xff, 0xff] = 65535 ∧
    lenDecode 127 [0xff, 0xff, 0xff, 0xff, 0, 0, 0, 5] = 5 ∧ lenDecode 127 [0x80, 0, 0, 0, 0, 0, 0, 1] = 1 := by decide

/-- 95 L1-4. -/
theorem test_maskXor :
    maskXor 0x37FA213D [0x48, 0x65, 0x6c, 0x6c, 0x6f] = [0x7f, 0x9f, 0x4d, 0x51, 0x58] ∧
    maskXor 0xA1B2C3D4 [0x57, 0x65, 0x62, 0x53, 0x6f, 0x63, 0x6b, 0x65, 0x74, 0x21] =
      [0xf6, 0xd7, 0xa1, 0x87, 0xce, 0xd1, 0xa8, 0xb1, 0xd5, 0x93] := by decide

/-- 95 section 2.3: `SHA1("abc")`. -/
theorem test_sha1 :
    sha1 [0x61, 0x62, 0x63] =
      [0xa9, 0x99, 0x3e, 0x36, 0x47, 0x06, 0x81, 0x6a, 0xba, 0x3e, 0x25, 0x71, 0x78, 0x50, 0xc2, 0x6c, 0x9c, 0xd0,
        0xd8, 0x9d] := by decide +kernel

/-- 95 section 2.3: the Base64 remainders, `Zg==`, `Zm8=`, `Zm9v`. -/
theorem test_base64 :
    base64 [0x66] = [0x5a, 0x67, 0x3d, 0x3d] ∧ base64 [0x66, 0x6f] = [0x5a, 0x6d, 0x38, 0x3d] ∧
    base64 [0x66, 0x6f, 0x6f] = [0x5a, 0x6d, 0x39, 0x76] := by decide

/-! ### Small states -/

/-- `STATE = 0x21`: accepted, awaiting the takeover. -/
def upgState : State := { State.reset with sess := .upg, hsok := true, http := 101 }

/-- `STATE = 0x26`, the bytes of RX that have arrived, and the draws of the next writes. -/
def openState (rx : List Byte) (draws : List TxDraw) : State :=
  { State.reset with
    sess := .opened, owned := true, hsok := true, http := 101, status := .illegalState, rx := rx, txDraws := draws }

/-- The same, with RX ended. -/
def openEnded (rx : List Byte) (draws : List TxDraw) : State := { openState rx draws with rxEnd := .ended }

/-- `STATE = 0x63`: closed and released. -/
def closedState : State := { State.reset with sess := .closed, hsok := true, http := 101, released := true }

/-- Before the handshake, with the three headers set. -/
def hsState (conn upg key : List Byte) : State :=
  { State.reset with
    hconn := bufFill State.reset.hconn 0 conn, hconnLen := BitVec.ofNat 32 conn.length
    hupg := bufFill State.reset.hupg 0 upg, hupgLen := BitVec.ofNat 32 upg.length
    hkey := bufFill State.reset.hkey 0 key, hkeyLen := BitVec.ofNat 32 key.length }

/-- The RFC key of 95 L1-1. -/
def rfcKey : List Byte :=
  [0x64, 0x47, 0x68, 0x6c, 0x49, 0x48, 0x4e, 0x68, 0x62, 0x58, 0x42, 0x73, 0x5a, 0x53, 0x42, 0x75,
    0x62, 0x32, 0x35, 0x6a, 0x5a, 0x51, 0x3d, 0x3d]

/-- What a vector of spec/95 says of an outcome: `STATUS`, `STATE`, TX, how many bytes were consumed. -/
def seen : Result → Option (Byte × Byte × List Byte × Nat)
  | .next s => some (statusCode s.status, stateReg s, s.tx, s.rxPos)
  | .fault _ => none
  | .refused _ => none

/-- The RX registers of an outcome: `RXB0`, `RXB1`, `RXPLEN`, `RXMKEY`. -/
def seenRx : Result → Option (Byte × Byte × Word × Word)
  | .next s => some (s.rxb0, s.rxb1, s.rxplen, s.rxmkey)
  | .fault _ => none
  | .refused _ => none

/-- The first bytes of `PBUF`, if written. -/
def seenPbuf (n : Nat) : Result → Option (List (Option Byte))
  | .next s => some ((List.range n).map fun i => cellsFind i s.pbuf.cells)
  | .fault _ => none
  | .refused _ => none

/-- The logs and releases of an outcome, and `HTTP`. -/
def seenEvents : Result → Option (List Event × BitVec 16)
  | .next s => some (s.events.filter (fun e => match e with | .sent _ => false | .log _ => true | .release => true), s.http)
  | .fault _ => none
  | .refused _ => none

/-! ### Commands: one step each -/

/-- 95 section 2.6: `NOP`, in `OPEN` and in `CLOSED`. -/
theorem test_nop : seen (exec .nop (openState [] [])) = some (0x00, 0x26, [], 0) ∧
    seen (exec .nop closedState) = some (0x00, 0x63, [], 0) := by decide

/-- 95 L1-1: the accept key, `HTTP = 101`, `STATE = 0x21`. -/
theorem test_hsderive_accepts :
    (match exec .hsderive (hsState upgradeWord websocketWord rfcKey) with
      | .next s => some (bufSlice s.accept 0 28, s.http, statusCode s.status, stateReg s)
      | .fault _ => none
      | .refused _ => none) =
    some ([0x73, 0x33, 0x70, 0x50, 0x4c, 0x4d, 0x42, 0x69, 0x54, 0x78, 0x61, 0x51, 0x39, 0x6b, 0x59, 0x47, 0x7a, 0x7a,
      0x68, 0x5a, 0x52, 0x62, 0x4b, 0x2b, 0x78, 0x4f, 0x6f, 0x3d], 101, 0x00, 0x21) := by decide +kernel

/-- 95 L1-2 and section 2.3: `upgrade` fails although the key is missing too; a missing key alone gives 0x11. -/
theorem test_hsderive_rejects :
    seen (exec .hsderive (hsState [0x75, 0x70, 0x67, 0x72, 0x61, 0x64, 0x65] websocketWord [])) =
      some (0x10, 0x03, [], 0) ∧
    seen (exec .hsderive (hsState upgradeWord websocketWord [])) = some (0x11, 0x03, [], 0) := by decide +kernel

/-- 95 section 2.6: `TAKEOK` from 0x21 and from reset. -/
theorem test_takeok : seen (exec .takeok upgState) = some (0x00, 0x26, [], 0) ∧
    seen (exec .takeok State.reset) = some (0x31, 0x00, [], 0) := by decide

/-- 95 section 2.6: `TAKEFAIL` from 0x21. -/
theorem test_takefail : seen (exec .takefail upgState) = some (0x12, 0x23, [], 0) ∧
    seenEvents (exec .takefail upgState) = some ([], 500) := by decide

/-- 95 section 2.4, first row. -/
theorem test_decode_masked :
    seen (exec .decode (openState [0x81, 0x85, 0x37, 0xfa, 0x21, 0x3d, 0x7f, 0x9f, 0x4d, 0x51, 0x58] [])) =
      some (0x00, 0x26, [], 11) ∧
    seenRx (exec .decode (openState [0x81, 0x85, 0x37, 0xfa, 0x21, 0x3d, 0x7f, 0x9f, 0x4d, 0x51, 0x58] [])) =
      some (0x81, 0x85, 5, 0x37FA213D) ∧
    seenPbuf 6 (exec .decode (openState [0x81, 0x85, 0x37, 0xfa, 0x21, 0x3d, 0x7f, 0x9f, 0x4d, 0x51, 0x58] [])) =
      some [some 0x48, some 0x65, some 0x6c, some 0x6c, some 0x6f, none] := by decide +kernel

/-- 95 section 2.4: the 64-bit form with bit 63 set; a close; a fragment; a frame cut short; the row `01 83 61 62 63`
`EOF`, whose last three bytes are key bytes (log 30). -/
theorem test_decode_others :
    [seen (exec .decode (openState [0x82, 0x7f, 0x80, 0, 0, 0, 0, 0, 0, 1, 0x5a] [])),
      seen (exec .decode (openState [0x88, 0x80, 1, 2, 3, 4] [])),
      seen (exec .decode (openState [0x01, 0x03, 0x61, 0x62, 0x63] [])),
      seen (exec .decode (openEnded [0x81, 0x05, 0x68, 0x65] [])),
      seen (exec .decode (openEnded [0x01, 0x83, 0x61, 0x62, 0x63] []))] =
    [some (0x00, 0x26, [], 11), some (0x01, 0x36, [], 2), some (0x22, 0x63, [], 5), some (0x20, 0x63, [], 4),
      some (0x20, 0x63, [], 5)] := by
  decide +kernel

/-- 95 section 2.5: `TXOPC = 0x9`, one byte `p`; and the second row of the write failures. -/
theorem test_encode :
    seen (exec .encode { openState [] [.ok, .ok] with
      txopc := 9, txlen := 1, txbuf := bufFill State.reset.txbuf 0 [0x70] }) = some (0x00, 0x26, [0x89, 0x01, 0x70], 0) ∧
    seen (exec .encode { openState [] [.fail 1] with
      txopc := 1, txlen := 1, txbuf := bufFill State.reset.txbuf 0 [0x70] }) = some (0x21, 0x63, [0x81], 0) := by decide +kernel

/-- 95 section 2.5: code 0x03E8 with reason `bye`, and the length that is too long by one. -/
theorem test_encclose :
    seen (exec .encclose { openState [] [.ok, .ok] with
      ccode := 0x03E8, txlen := 3, txbuf := bufFill State.reset.txbuf 0 [0x62, 0x79, 0x65] }) =
      some (0x00, 0x26, [0x88, 0x05, 0x03, 0xe8, 0x62, 0x79, 0x65], 0) ∧
    seen (exec .encclose { openState [] [] with txlen := 0xFFFFFFFE }) = some (0x32, 0x26, [], 0) := by decide +kernel

/-- 95 section 2.6: an echo whose payload arrives in a 64-bit form; a close reply whose second write fails. -/
theorem test_step :
    seen (exec .step (openState [0x82, 0x7f, 0, 0, 0, 0, 0, 0, 0, 2, 0xaa, 0xbb] [.ok, .ok])) =
      some (0x00, 0x26, [0x82, 0x02, 0xaa, 0xbb], 12) ∧
    seen (exec .step (openState [0x88, 0x00] [.ok, .fail 2])) = some (0x21, 0x73, [0x88, 0x05, 0x00, 0x08], 2) := by
  decide +kernel

/-- 95 section 2.6: `RUN` on a text frame and a close frame; and on an open RX after one frame, where it waits. -/
theorem test_run :
    seen (exec .run (openState [0x81, 0x81, 0, 0, 0, 0, 0x41, 0x88, 0x80] [.ok, .ok, .ok, .ok])) =
      some (0x01, 0x73, [0x81, 0x01, 0x41, 0x88, 0x05, 0x00, 0x08, 0x62, 0x79, 0x65], 9) ∧
    (seen (exec .run (openState [0x81, 0x00] [.ok, .ok]))).map (fun r => r.2.1) = some 0x2E := by decide +kernel

/-- 95 section 2.6: `RELEASE` from 0x26 and from 0x63. -/
theorem test_release : seen (exec .release (openState [] [])) = some (0x00, 0x63, [], 0) ∧
    seenEvents (exec .release (openState [] [])) = some ([.release], 101) ∧
    seen (exec .release closedState) = some (0x31, 0x63, [], 0) := by decide

/-- 95 section 2.7: reserved words, even in `CLOSED`. -/
theorem test_reserved :
    [0x0A, 0x0B, 0x0F, 0x1A, 0x20, 0x40, 0x80, 0xFF].map (fun w : Byte => seen (exec (decodeCommand w) closedState)) =
      List.replicate 8 (some (0x30, 0x63, [], 0)) := by decide

/-! ### The frame opcodes, their header already read (44 R273 to R280) -/

/-- R273: RX `80 81 00 00 00 00 7a`, TX `80 01 7a`. -/
theorem test_frameCont : seen (exec (.frameCont true 0 true 1) (openState [0, 0, 0, 0, 0x7a] [.ok, .ok])) =
    some (0x00, 0x26, [0x80, 0x01, 0x7a], 5) := by decide +kernel

/-- R274: RX `81 85 01 02 03 04 69 67 6f 68 6e`, TX `81 05 68 65 6c 6c 6f`. -/
theorem test_frameText :
    seen (exec (.frameText true 0 true 5) (openState [1, 2, 3, 4, 0x69, 0x67, 0x6f, 0x68, 0x6e] [.ok, .ok])) =
      some (0x00, 0x26, [0x81, 0x05, 0x68, 0x65, 0x6c, 0x6c, 0x6f], 9) := by decide +kernel

/-- R275: RX `82 82 ff ff ff ff 00 ff`, TX `82 02 ff 00`. -/
theorem test_frameBinary :
    seen (exec (.frameBinary true 0 true 2) (openState [0xff, 0xff, 0xff, 0xff, 0x00, 0xff] [.ok, .ok])) =
      some (0x00, 0x26, [0x82, 0x02, 0xff, 0x00], 6) := by decide +kernel

/-- R276, R279, R280: an empty frame of each reserved opcode and a pong are echoed with their own opcode. -/
theorem test_frame_reserved_and_pong :
    [Instr.frameRsvd3 true 0 false 0, .frameRsvd4 true 0 false 0, .frameRsvd5 true 0 false 0, .frameRsvd6 true 0 false 0,
      .frameRsvd7 true 0 false 0, .framePong true 0 false 0, .frameRsvdB true 0 false 0, .frameRsvdC true 0 false 0,
      .frameRsvdD true 0 false 0, .frameRsvdE true 0 false 0, .frameRsvdF true 0 false 0].map
        (fun i => seen (exec i (openState [] [.ok, .ok]))) =
    [0x83, 0x84, 0x85, 0x86, 0x87, 0x8A, 0x8B, 0x8C, 0x8D, 0x8E, 0x8F].map
        (fun b0 : Byte => some (0x00, 0x26, [b0, 0x00], 0)) := by decide +kernel

/-- R277: RX `88 82 00 00 00 00 03 e8`, TX `88 05 00 08 62 79 65`, 6 bytes unread. -/
theorem test_frameClose :
    seen (exec (.frameClose true 0 true 2) (openState [0, 0, 0, 0, 0x03, 0xe8] [.ok, .ok])) =
      some (0x01, 0x73, [0x88, 0x05, 0x00, 0x08, 0x62, 0x79, 0x65], 0) := by decide +kernel

/-- R278: RX `89 80 00 00 00 00`, TX `89 00`; 95 L1-5: RX `09 00` is a fragment. -/
theorem test_framePing :
    seen (exec (.framePing true 0 true 0) (openState [0, 0, 0, 0] [.ok, .ok])) = some (0x00, 0x26, [0x89, 0x00], 4) ∧
    seen (exec (.framePing false 0 false 0) (openState [] [])) = some (0x22, 0x63, [], 0) := by decide +kernel

/-! ### The step -/

/-- 10 R25: a host write of 0x00 (`NOP`) to index 0; 10 R24: refused while busy. -/
theorem test_step_command :
    seen (step { openState [] [] with inputs := [.writeReg 0 0] }) = some (0x00, 0x26, [], 0) ∧
    (match step { openState [] [] with engine := .decode .hdr [], inputs := [.writeReg 0 0] } with
      | .refused r => some r | .next _ => none | .fault _ => none) = some .hostWriteWhileBusy := by decide

/-- 95 L1-8 B, and the end of the frame: a `RUN` that waits in the payload goes on when the byte arrives. -/
theorem test_step_peer :
    (seen (step { openState [] [.ok, .ok] with
      engine := .frame .run .hdr [], inputs := [.peerSend [0x82, 0x81, 0, 0, 0, 0]] })).map (fun r => r.2.1) = some 0x2E ∧
    (seen (step { openState [] [.ok, .ok] with
      rxb0 := 0x82, rxb1 := 0x81, engine := .frame .step (.pay 1) [], inputs := [.peerSend [0x5a]] })) =
      some (0x00, 0x26, [0x82, 0x01, 0x5a], 1) := by decide +kernel

/-- 95 section 2.8: reset of a closed instance, and of one that owns a stream. -/
theorem test_step_reset :
    seen (step { closedState with inputs := [.reset] }) = some (0x00, 0x00, [], 0) ∧
    (match step { openState [] [] with inputs := [.reset] } with
      | .refused r => some r | .next _ => none | .fault _ => none) = some .resetWhileActive := by decide

/-- 10 R24: while the close reply waits in its first write, `STATE` reads as before `STEP` (0x26) with `BUSY` 1. -/
theorem test_state_while_reply_waits :
    (match exec .step (openState [0x88, 0x00] [.stall 1]) with
      | .next s => some (readReg 0x02 s, s.tx) | .fault _ => none | .refused _ => none) = some (0x2E, [0x88]) := by
  decide +kernel

/-- Two instances of one system have free values of their own numbers (log 28). -/
theorem test_system_sources :
    (systemReset [Config.default, Config.default]).instances.map (fun s => s.cfg.freeSource) = [0, 1] := by decide

/-- 10 R39: a write of 0xF1 to `TXOPC` stores 0x1 (95 section 2.5). -/
theorem test_txopc : readReg 0x08 (writeReg 0x08 0xF1 State.reset) = 0x01 := by decide

/-- The host's placing of a word: the very next step runs it. -/
theorem test_withFetchWord :
    seen (step (State.reset.withFetchWord 8 0x1A)) = some (0x30, 0x00, [], 0) ∧
    (seen (step { State.reset.withFetchWord 16 0x8089 with txDraws := [.ok, .ok] })).map (fun r => (r.1, r.2.2)) =
      some (0x00, [0x89, 0x00], 6) := by decide +kernel

/-! ### Witnesses: states and operands that meet each statement's hypotheses -/

/-- A whole frame `81 01 41` and one byte of the next. -/
def wholeFrame : List Byte := [0x81, 0x01, 0x41, 0x88]

/-- The first premise of `StepRunsCommandWord`. -/
theorem witness_StepRunsCommandWord :
    let s : State := { State.reset with inputs := [.writeReg 0x00 0x107] }
    s.inputs = .writeReg 0x00 0x107 :: [] ∧ busy s = false := by decide

/-- One header byte taken, the other arrives; and none taken. -/
theorem witness_StepRunsFrameHeader :
    (let s : State := { openState [] [] with engine := .frame .run .hdr [0x81], inputs := [.peerSend [0x00]] }
     s.inputs = .peerSend [0x00] :: [] ∧ s.rxEnd = .opened ∧ s.engine = .frame .run .hdr [0x81] ∧
     [(0x81 : Byte)].length < 2 ∧ [(0x81 : Byte)] ++ s.rx ++ [0x00] = 0x81 :: 0x00 :: []) ∧
    (let s : State := { openState [0x89] [] with engine := .frame .step .hdr [], inputs := [.peerSend [0x00, 0x07]] }
     s.inputs = .peerSend [0x00, 0x07] :: [] ∧ s.rxEnd = .opened ∧ s.engine = .frame .step .hdr [] ∧
     ([] : List Byte).length < 2 ∧ [] ++ s.rx ++ [0x00, 0x07] = 0x89 :: 0x00 :: [0x07]) := by decide

/-- An instruction of each space, a reserved word at its row's bound among them. -/
theorem witness_DecodeOfEncodeIsSame :
    Instr.nop.wellFormed = true ∧ (Instr.reservedLowA 0x0B).wellFormed = true ∧
    (Instr.reservedBit7 0x8F).wellFormed = true ∧ (Instr.frameRsvdF false 7 true 127).wellFormed = true := by decide

/-- Both alternatives of the premise of `ResetRestoresRegisters`. -/
theorem witness_ResetRestoresRegisters :
    applyReset closedState = .next (resetState closedState) ∧ State.reset = State.reset ∧ State.reset.events = [] :=
  ⟨rfl, rfl, rfl⟩

/-- Each clause of `ResetOnlyWhenIdle`: idle and unowned, owned, busy. -/
theorem witness_ResetOnlyWhenIdle :
    ({ closedState with inputs := [.reset] }.inputs = .reset :: [] ∧ closedState.owned = false ∧ busy closedState = false) ∧
    (openState [] []).owned = true ∧ busy { openState [] [] with engine := .decode .hdr [] } = true := by decide

/-- Each clause of `TakeokOpensSession` and `TakefailClosesSession`. -/
theorem witness_TakeokOpensSession : upgState.sess = .upg ∧ State.reset.sess ≠ .upg := by decide
theorem witness_TakefailClosesSession : upgState.sess = .upg ∧ closedState.sess ≠ .upg := by decide

/-- Each clause of `ReleaseClosesSession`. -/
theorem witness_ReleaseClosesSession :
    ((openState [] []).sess = .opened ∧ (openState [] []).owned = true) ∧
    { openState [] [] with owned := false }.sess = .opened ∧ { openState [] [] with owned := false }.owned = false := by
  decide

/-- Each clause of `IllegalStateChangesOnlyStatus`. -/
theorem witness_IllegalStateChangesOnlyStatus :
    admitted .decode .opened true = false ∧ admitted .encode .closed false = false ∧
    (admitted .nop State.reset.sess State.reset.closeRcvd = true ∧ State.reset.status ≠ .illegalState ∧
      exec .nop State.reset = .next { State.reset with status := .ok }) := ⟨by decide, by decide, by decide, by decide, rfl⟩

/-- The bounds of the first clause of `ReservedWordsAreIllegal`. -/
theorem witness_ReservedWordsAreIllegal : 0x0A ≤ (0x0A : Byte).toNat ∧ 0x0A ≤ (0xFF : Byte).toNat := by decide

/-- The hypotheses of `HsderiveAcceptsUpgrade`. -/
theorem witness_HsderiveAcceptsUpgrade :
    let s := hsState upgradeWord websocketWord [0x78]
    s.sess = .hs ∧ s.hconnLen.toNat ≤ s.cfg.hdrCap ∧ s.hupgLen.toNat ≤ s.cfg.hdrCap ∧ s.hkeyLen.toNat ≤ s.cfg.hdrCap ∧
      headerConn s = upgradeWord ∧ headerUpg s = websocketWord ∧ headerKey s ≠ [] := by decide +kernel

/-- Each clause of `HsderiveRejectsInOrder`: a wrong `Connection`, a wrong `Upgrade`, no key. -/
theorem witness_HsderiveRejectsInOrder :
    (hsState [] websocketWord []).sess = .hs ∧ headerConn (hsState [] websocketWord []) ≠ upgradeWord ∧
    headerUpg (hsState upgradeWord [] [0x78]) ≠ websocketWord ∧
    headerConn (hsState upgradeWord websocketWord []) = upgradeWord ∧
    headerUpg (hsState upgradeWord websocketWord []) = websocketWord ∧
    (hsState upgradeWord websocketWord []).hkeyLen = 0 ∧
    (hsState upgradeWord websocketWord []).hconnLen.toNat ≤ State.reset.cfg.hdrCap ∧
    (hsState upgradeWord websocketWord []).hupgLen.toNat ≤ State.reset.cfg.hdrCap := by decide +kernel

/-- Small capacities for `CapacityChecksRefuse`. -/
def smallCfg : Config := { pbufCap := 1, txbufCap := 1, hdrCap := 1, closeReplyCode := 8, freeSource := 0 }

/-- Each clause of `CapacityChecksRefuse`, each length one above its capacity. -/
theorem witness_CapacityChecksRefuse :
    (let s : State := { State.reset with cfg := smallCfg, hkeyLen := 2 }
     s.sess = .hs ∧ s.cfg.hdrCap < s.hkeyLen.toNat) ∧
    (let s : State := { openState [] [] with cfg := smallCfg, txlen := 2 }
     s.sess = .opened ∧ s.cfg.txbufCap < s.txlen.toNat) ∧
    (let s : State := { openState [0x81, 0x7e, 0x00, 0x02] [] with cfg := smallCfg }
     s.sess = .opened ∧ s.closeRcvd = false ∧ s.rx = 0x81 :: 0x7e :: ([0x00, 0x02] ++ []) ∧ headerOpcode 0x81 ≠ 0x8 ∧
     [(0x00 : Byte), 0x02].length = extLen (headerLen7 0x7e) ∧
      s.cfg.pbufCap < (lenDecode (headerLen7 0x7e) [0x00, 0x02]).toNat) := by decide

/-- The padding premise of `Sha1PaddingFillsBlocks` at the spec's `L = 37`, `z = 18`. -/
theorem witness_Sha1PaddingFillsBlocks :
    ((List.replicate 37 (0 : Byte)).length + 1 + 18 + 8) % 64 = 0 ∧ sha1Zeros 37 = 18 ∧ sha1Zeros 60 = 59 := by decide

/-- Each form holds a length for `LengthCodeUnmaskedShortest`. -/
theorem witness_LengthCodeUnmaskedShortest :
    (([] : List Byte).length = extLen 125 ∧ lenDecode 125 [] = 125) ∧
    ([(0x00 : Byte), 0x7d].length = extLen 126 ∧ lenDecode 126 [0x00, 0x7d] = 125) ∧
    ([(0 : Byte), 0, 0, 0, 0, 1, 0, 0].length = extLen 127 ∧ lenDecode 127 [0, 0, 0, 0, 0, 1, 0, 0] = 65536) := by decide

/-- Each clause of `RxReadAllOrNothing`: exactly enough bytes, one too few on an open and on an ended RX. -/
theorem witness_RxReadAllOrNothing :
    ((openState [0x81, 0x00] []).rx = [0x81, 0x00] ++ [] ∧ [(0x81 : Byte), 0x00].length = 2) ∧
    ((openState [0x81] []).rx.length < 2 ∧ (openState [0x81] []).rxEnd = .opened) ∧
    ((openEnded [0x81] []).rx.length < 2 ∧ (openEnded [0x81] []).rxEnd ≠ .opened) := by decide

/-- A masked frame of one byte for the decoding statements: `81 81 01 02 03 04 40`, `01 81 ...`, and what follows. -/
theorem witness_DecodeReturnsFrame :
    let s := openState [0x81, 0x81, 1, 2, 3, 4, 0x40, 0x99] []
    s.sess = .opened ∧ s.closeRcvd = false ∧ headerOpcode 0x81 ≠ 0x8 ∧ headerFin 0x81 = true ∧
      frameFits (headerLen7 0x81) [] [0x41] s.cfg ∧
      s.rx = 0x81 :: 0x81 :: (frameTail (headerMasked 0x81) 0x01020304 [] [0x41] ++ [0x99]) := by
  unfold frameFits; decide

/-- The length is exactly the capacity, in the 16-bit form. -/
theorem witness_DecodeReturnsFrame_full :
    let s : State := { openState [0x82, 0x7e, 0, 1, 0x41] [] with cfg := smallCfg }
    s.sess = .opened ∧ s.closeRcvd = false ∧ headerOpcode 0x82 ≠ 0x8 ∧ headerFin 0x82 = true ∧
      frameFits (headerLen7 0x7e) [0, 1] [0x41] s.cfg ∧
      s.rx = 0x82 :: 0x7e :: (frameTail (headerMasked 0x7e) 0 [0, 1] [0x41] ++ []) := by
  unfold frameFits; decide

theorem witness_DecodeRejectsFragment :
    let s := openState [0x01, 0x81, 1, 2, 3, 4, 0x40] []
    s.sess = .opened ∧ s.closeRcvd = false ∧ s.owned = true ∧ headerOpcode 0x01 ≠ 0x8 ∧ headerFin 0x01 = false ∧
      frameFits (headerLen7 0x81) [] [0x41] s.cfg ∧
      s.rx = 0x01 :: 0x81 :: (frameTail (headerMasked 0x81) 0x01020304 [] [0x41] ++ []) := by
  unfold frameFits; decide

/-- A close frame with `fin = 0`. -/
theorem witness_DecodeStopsAtClose :
    let s := openState [0x08, 0xff] []
    s.sess = .opened ∧ s.closeRcvd = false ∧ headerOpcode 0x08 = 0x8 ∧ s.rx = 0x08 :: 0xff :: [] := by decide

/-- RX ended in each step of a frame: nothing of it, one length byte missing, one payload byte missing. -/
theorem witness_DecodeTruncatedCloses :
    let s := openEnded [0x81, 0x82, 1, 2, 3, 4, 0x40] []
    Instr.run ∈ [Instr.decode, Instr.step, Instr.run] ∧ s.sess = .opened ∧ s.closeRcvd = false ∧ s.owned = true ∧
      s.rxEnd ≠ .opened ∧ frameCutShort s.rx s.cfg ∧ frameCutShort [] s.cfg ∧ frameCutShort [0x81, 0xfe, 0x00] s.cfg :=
  ⟨by decide, rfl, rfl, rfl, by decide, Or.inr ⟨_, _, _, rfl, by decide, Or.inr (by decide)⟩, Or.inl (by decide),
    Or.inr ⟨_, _, _, rfl, by decide, Or.inl (by decide)⟩⟩

/-- The first and the last clause of `DecodeWaitsForBytes`: an open RX, and an ended one after a header. -/
theorem witness_DecodeWaitsForBytes :
    (let s := openState [0x81, 0x82, 1, 2, 3] []
     Instr.step ∈ [Instr.decode, Instr.step, Instr.run] ∧ s.sess = .opened ∧ s.closeRcvd = false ∧ s.rxEnd = .opened ∧
       frameCutShort s.rx s.cfg) ∧
    (let s := openEnded [0x41] []
     s.sess = .opened ∧ s.closeRcvd = false ∧ s.owned = true ∧ s.rxEnd ≠ .opened ∧
       frameCutShort (0x81 :: 0x02 :: s.rx) s.cfg) :=
  ⟨⟨by decide, rfl, rfl, rfl, Or.inr ⟨_, _, _, rfl, by decide, Or.inr (by decide)⟩⟩,
    ⟨rfl, rfl, rfl, by decide, Or.inr ⟨_, _, _, rfl, by decide, Or.inr (by decide)⟩⟩⟩

/-- The invariant holds of an open state, idle or waiting for the first header byte. -/
theorem openState_runInv (rx : List Byte) (draws : List TxDraw) : runInv (openState rx draws) := by
  refine ⟨resetWith_memory_wf Config.default, ?_, ?_, ?_⟩ <;> simp [sessionInv, engineInv, positionInv, openState, State.reset,
    State.resetWith]

/-- The invariant holds of the same state while `RUN` waits for a header. -/
theorem waiting_runInv : runInv { openState [] [] with engine := .frame .run .hdr [0x81] } := by
  refine ⟨resetWith_memory_wf Config.default, ?_, ?_, ?_⟩ <;> simp [sessionInv, engineInv, positionInv, phaseInv, openState,
    State.reset, State.resetWith]

/-- The second clause of `DecodeWaitsForBytes`: RX fails while `RUN` waits. -/
theorem witness_DecodeWaitsForBytes_end :
    let s : State :=
      { openState [] [] with engine := .frame .run .hdr [0x81], inputs := [.peerEnd .failed] }
    runInv s ∧ s.engine = .frame .run .hdr [0x81] ∧ s.rx = [] ∧ s.rxEnd = .opened ∧ RxEnd.failed ≠ .opened ∧
      s.inputs = .peerEnd .failed :: [] := ⟨waiting_runInv, rfl, rfl, rfl, by decide, rfl⟩

theorem witness_ChunkingIsIrrelevant :
    runInv { openState [] [] with engine := .frame .run .hdr [0x81] } ∧
    peerSend [] { openState [] [] with engine := .frame .run .hdr [0x81] } =
      .next { openState [] [] with engine := .frame .run .hdr [0x81] } := ⟨waiting_runInv, by rfl⟩

/-- The second clause of `ChunkingIsIrrelevant`: each command, and a frame instruction, that waits. -/
theorem witness_ChunkingIsIrrelevant_waits :
    busy (openState [0x81] []) = false ∧
    (∃ t, exec .decode (openState [0x81] []) = .next t ∧ inRead t = true) ∧
    (∃ t, exec .step (openState [0x81] []) = .next t ∧ inRead t = true) ∧
    (∃ t, exec .run (openState [0x81] []) = .next t ∧ inRead t = true) ∧
    (Instr.frameText true 0 false 2).space = .frame ∧
    ∃ t, exec (.frameText true 0 false 2) (openState [0x81] []) = .next t ∧ inRead t = true :=
  ⟨rfl, ⟨_, rfl, rfl⟩, ⟨_, rfl, rfl⟩, ⟨_, rfl, rfl⟩, rfl, _, rfl, rfl⟩

theorem witness_EncodeSendsFrame :
    let s : State := { openState [] [.ok, .ok] with txlen := 126 }
    s.sess = .opened ∧ s.txlen.toNat ≤ s.cfg.txbufCap ∧ s.txDraws = .ok :: .ok :: [] := by decide

/-- The largest reason length `ENCCLOSE` sends, and the smallest it does not. -/
theorem witness_EnccloseSendsCloseFrame :
    let s : State := { openState [] [.ok, .ok] with txlen := 0xFFFFFFFD }
    s.sess = .opened ∧ s.txlen.toNat ≤ s.cfg.txbufCap ∧ s.txlen.toNat ≤ 4294967293 ∧ s.txDraws = .ok :: .ok :: [] := by
  decide

theorem witness_EnccloseTooLong :
    let s : State := { openState [] [] with txlen := 0xFFFFFFFE }
    s.sess = .opened ∧ s.txlen.toNat ≤ s.cfg.txbufCap ∧ 4294967293 < s.txlen.toNat := by decide

/-- Each clause: the header write fails at once, the payload write fails with all its bytes delivered; the longest
close reason. -/
theorem witness_EncodeWriteFailureCloses :
    let s : State := { openState [] [.fail 0] with txlen := 0xFFFFFFFD }
    s.sess = .opened ∧ s.owned = true ∧ s.txlen.toNat ≤ s.cfg.txbufCap ∧ s.txlen.toNat ≤ 4294967293 ∧
      s.txDraws = .fail 0 :: [] ∧ { s with txDraws := [.ok, .fail 5] }.txDraws = .ok :: .fail 5 :: [] := by decide

/-- The first two clauses of `StalledEncodeCompletes`: a header write and a payload write that stall. -/
theorem witness_StalledEncodeCompletes :
    (let s : State := { openState [] [.stall 1, .ok] with txlen := 5 }
     Instr.encclose ∈ [Instr.encode, Instr.encclose] ∧ s.sess = .opened ∧ s.txlen.toNat ≤ s.cfg.txbufCap ∧
       s.txlen.toNat ≤ 4294967293 ∧ s.txDraws = .stall 1 :: [.ok]) ∧
    (let s := openState [0x81, 0x01, 0x41] [.ok, .stall 0]
     Instr.run ∈ [Instr.step, Instr.run] ∧ s.sess = .opened ∧ s.closeRcvd = false ∧ headerOpcode 0x81 ≠ 0x8 ∧
       headerFin 0x81 = true ∧ frameFits (headerLen7 0x01) [] [0x41] s.cfg ∧
       s.rx = 0x81 :: 0x01 :: (frameTail (headerMasked 0x01) 0 [] [0x41] ++ []) ∧ s.txDraws = .ok :: .stall 0 :: []) ∧
    headerOpcode 0x88 = 0x8 ∧ (openState [0x88, 0x00] [.stall 7]).rx = 0x88 :: 0x00 :: [] := by
  unfold frameFits; decide

/-- The third clause: a payload write of an echo, a close reply of `RUN` after an echo, a frame instruction. -/
theorem witness_StalledEncodeCompletes_reply :
    (∃ t, exec .step (openState [0x81, 0x01, 0x41] ([.ok] ++ .stall 0 :: [.ok])) = .next t ∧ inWrite t = true ∧
      t.txDraws = [.ok]) ∧
    (∃ t, exec .run (openState [0x81, 0x00, 0x88, 0x00] ([.ok, .ok] ++ .stall 1 :: [])) = .next t ∧ inWrite t = true ∧
      t.txDraws = []) ∧
    busy (openState [] [.stall 2]) = false ∧
    ∃ t, exec (.framePing true 0 false 0) (openState [] ([] ++ .stall 2 :: [])) = .next t ∧ inWrite t = true ∧
      t.txDraws = [] := ⟨⟨_, rfl, rfl, rfl⟩, ⟨_, rfl, rfl, rfl⟩, rfl, _, rfl, rfl, rfl⟩

theorem witness_EncodedFrameDecodesBack :
    let s := openState [0x8f, 0x01, 0x41, 0x77] []
    s.sess = .opened ∧ s.closeRcvd = false ∧ (0xF : BitVec 4) ≠ 0x8 ∧ [(0x41 : Byte)].length < 4294967296 ∧
      [(0x41 : Byte)].length ≤ s.cfg.pbufCap ∧
      s.rx = encodeHeader 0xF (BitVec.ofNat 32 [(0x41 : Byte)].length) ++ ([0x41] ++ [0x77]) := by decide

theorem witness_StepEchoesFrame :
    let s := openState [0x81, 0x81, 1, 2, 3, 4, 0x40] [.ok, .ok]
    s.sess = .opened ∧ s.closeRcvd = false ∧ headerOpcode 0x81 ≠ 0x8 ∧ headerFin 0x81 = true ∧
      frameFits (headerLen7 0x81) [] [0x41] s.cfg ∧
      s.rx = 0x81 :: 0x81 :: (frameTail (headerMasked 0x81) 0x01020304 [] [0x41] ++ []) ∧
      s.txDraws = .ok :: .ok :: [] := by
  unfold frameFits; decide

theorem witness_DataFrameOpcodesEcho :
    let s := openState [1, 2, 3, 4, 0x40] [.ok, .ok]
    ((0xF : BitVec 4), Instr.frameRsvdF true 7 true 1) ∈ [((0x0 : BitVec 4), Instr.frameCont true 7 true 1),
        (0x1, .frameText true 7 true 1), (0x2, .frameBinary true 7 true 1), (0x3, .frameRsvd3 true 7 true 1),
        (0x4, .frameRsvd4 true 7 true 1), (0x5, .frameRsvd5 true 7 true 1), (0x6, .frameRsvd6 true 7 true 1),
        (0x7, .frameRsvd7 true 7 true 1), (0x9, .framePing true 7 true 1), (0xA, .framePong true 7 true 1),
        (0xB, .frameRsvdB true 7 true 1), (0xC, .frameRsvdC true 7 true 1), (0xD, .frameRsvdD true 7 true 1),
        (0xE, .frameRsvdE true 7 true 1), (0xF, .frameRsvdF true 7 true 1)] ∧
      s.sess = .opened ∧ s.closeRcvd = false ∧ frameFits 1 [] [0x41] s.cfg ∧
      s.rx = frameTail true 0x01020304 [] [0x41] ++ [] ∧ s.txDraws = .ok :: .ok :: [] := by
  unfold frameFits; decide

theorem witness_StepAndRunAnswerClose :
    let s := openState [0x88, 0x80, 1] [.ok, .ok]
    Instr.run ∈ [Instr.step, Instr.run] ∧ s.sess = .opened ∧ s.closeRcvd = false ∧ s.owned = true ∧
      headerOpcode 0x88 = 0x8 ∧ s.rx = 0x88 :: 0x80 :: [1] ∧ s.txDraws = .ok :: .ok :: [] := by decide

theorem witness_CloseFrameReplies :
    let s := openState [] [.ok, .ok]
    s.sess = .opened ∧ s.closeRcvd = false ∧ s.owned = true ∧ s.txDraws = .ok :: .ok :: [] := by decide

/-- Both clauses of `FragmentEndsSession`: the header already read, and still on RX. -/
theorem witness_FragmentEndsSession :
    let s := openState [0x41] []
    s.sess = .opened ∧ s.closeRcvd = false ∧ s.owned = true ∧ (0x0 : BitVec 4) ≠ 0x8 ∧ frameFits 1 [] [0x41] s.cfg ∧
      s.rx = frameTail false 0 [] [0x41] ++ [] ∧
      (openState [0x00, 0x01, 0x41] []).rx =
        headerByte0 false 0 0x0 :: headerByte1 false 1 :: (frameTail false 0 [] [0x41] ++ []) := by
  unfold frameFits; decide

/-- Each clause of `FailedReplyCloses`: an echo, a close reply, each with its first or its second write failing. -/
theorem witness_FailedReplyCloses :
    let s := openState [0x81, 0x01, 0x41] [.fail 1]
    let u := openState [0x88, 0x00] [.ok, .fail 2]
    Instr.run ∈ [Instr.step, Instr.run] ∧ s.sess = .opened ∧ s.closeRcvd = false ∧ s.owned = true ∧
      s.txDraws = .fail 1 :: [] ∧ headerOpcode 0x81 ≠ 0x8 ∧ headerFin 0x81 = true ∧
      frameFits (headerLen7 0x01) [] [0x41] s.cfg ∧
      s.rx = 0x81 :: 0x01 :: (frameTail (headerMasked 0x01) 0 [] [0x41] ++ []) ∧
      u.sess = .opened ∧ u.closeRcvd = false ∧ u.owned = true ∧ u.txDraws = .ok :: .fail 2 :: [] ∧
      headerOpcode 0x88 = 0x8 ∧ u.rx = 0x88 :: 0x00 :: [] := by
  unfold frameFits; decide

/-- Both clauses of `RunUnfoldsToStep`: an iteration after which the session is open, and one that closes it. -/
theorem witness_RunUnfoldsToStep :
    (∃ t, exec .step (openState wholeFrame [.ok, .ok]) = .next t ∧ busy t = false ∧ t.sess = .opened) ∧
    ∃ t, exec .step (openState [0x88, 0x00] [.ok, .ok]) = .next t ∧ busy t = false ∧ t.sess = .closed :=
  ⟨⟨_, rfl, rfl, rfl⟩, ⟨_, rfl, rfl, rfl⟩⟩

/-- `RUN` answers a next state where it closes the session, and where it waits. -/
theorem witness_RunEndsOnlyClosed :
    (∃ t, exec .run (openState [0x88, 0x00] [.ok, .ok]) = .next t ∧ t.sess = .closed) ∧
    ∃ t, exec .run (openState [] []) = .next t ∧ busy t = true :=
  ⟨⟨_, rfl, rfl⟩, ⟨_, rfl, rfl⟩⟩

/-- A step from a state with the invariant that takes the session out of `OPEN`, and logs nothing. -/
theorem witness_StepKeepsInv :
    runInv { openState [] [] with inputs := [.writeReg 0 0x09] } ∧
    ∃ t, step { openState [] [] with inputs := [.writeReg 0 0x09] } = .next t ∧ t.sess = .closed :=
  ⟨openState_runInv [] [], _, rfl, rfl⟩

theorem witness_ReleasedExactlyOnce :
    runInv { openState [] [] with inputs := [.writeReg 0 0x09] } ∧
    ∃ t, step { openState [] [] with inputs := [.writeReg 0 0x09] } = .next t ∧ releases t.events = 1 :=
  ⟨openState_runInv [] [], _, rfl, by decide⟩

/-- Both kinds of step of `SessTransitionsAreLegal`: a reset, and a command. -/
theorem witness_SessTransitionsAreLegal :
    (∃ t, step { closedState with inputs := [.reset] } = .next t ∧
      { closedState with inputs := [.reset] }.inputs.head? = some .reset) ∧
    ∃ t, step { upgState with inputs := [.writeReg 0 0x02] } = .next t ∧ t.sess = .opened ∧
      { upgState with inputs := [.writeReg 0 0x02] }.inputs.head? ≠ some .reset :=
  ⟨⟨_, rfl, rfl⟩, ⟨_, rfl, rfl, by decide⟩⟩

/-- Both clauses of `ClosedIsTerminal`. -/
theorem witness_ClosedIsTerminal :
    (closedState.sess = .closed ∧ Instr.release ∈ [Instr.hsderive, .takeok, .takefail, .decode, .encode, .encclose, .step,
      .run, .release]) ∧
    busy { closedState with inputs := [.peerSend [1]] } = false ∧
    { closedState with inputs := [.peerSend [1]] }.inputs.head? ≠ some .reset ∧
    ∃ t, step { closedState with inputs := [.peerSend [1]] } = .next t := ⟨by decide, by decide, by decide, _, rfl⟩

/-- A step that logs: `DECODE` of a fragment. -/
theorem witness_LogsArePostUpgradeErrors :
    runInv { openState [0x02, 0x00] [] with inputs := [.writeReg 0 0x04] } ∧
    ∃ t, step { openState [0x02, 0x00] [] with inputs := [.writeReg 0 0x04] } = .next t ∧
      t.events = [] ++ [.log .fragmentationUnsupported, .release] :=
  ⟨openState_runInv [0x02, 0x00] [], _, rfl, rfl⟩

/-- Bytes and an end of stream, with no command running. -/
theorem witness_PeerReachesNoOperand :
    (∃ t, step { State.reset with inputs := [.peerSend [1]] } = .next t) ∧
    (∃ t, step { State.reset with inputs := [.peerEnd .failed] } = .next t) ∧ busy State.reset = false :=
  ⟨⟨_, rfl⟩, ⟨_, rfl⟩, rfl⟩

/-- Each clause of `StateRegisterPacking`: an idle state, a command that waits, and a step of it that waits on. -/
theorem witness_StateRegisterPacking :
    busy (openState [] []) = false ∧ (∃ t, exec .run (openState [] []) = .next t ∧ busy t = true) ∧
    runInv { openState [] [] with engine := .frame .run .hdr [0x81], inputs := [.readReg 0x02] } ∧
    ∃ t, step { openState [] [] with engine := .frame .run .hdr [0x81], inputs := [.readReg 0x02] } = .next t ∧
      busy t = true := ⟨rfl, ⟨_, rfl, rfl⟩, waiting_runInv, _, rfl, rfl⟩

/-- The clauses of `RegisterMapReadsAndWrites` that have hypotheses: a read-only index, and the two host accesses. -/
theorem witness_RegisterMapReadsAndWrites :
    (0x07 : Byte) ∈ [(0x01 : Byte), 0x02, 0x03, 0x04, 0x05, 0x06, 0x07] ∧
    busy { upgState with inputs := [.readReg 0x0D] } = false ∧
    { upgState with inputs := [.readReg 0x0D] }.inputs = .readReg 0x0D :: [] ∧
    { upgState with inputs := [.writeReg 0x09 1] }.inputs = .writeReg 0x09 1 :: [] ∧ (0x09 : Byte) ≠ 0x00 := by decide

/-- The first reserved index, and the last. -/
theorem witness_ReservedAndHardwiredBits : 0x0E ≤ (0x0E : Byte).toNat ∧ 0x0E ≤ (0xFF : Byte).toNat := by decide

/-- A busy state and each of the three accesses. -/
theorem witness_BusyHostWritesRefused :
    let s : State := { openState [] [] with engine := .decode .hdr [] }
    busy s = true ∧ { s with inputs := [.writeReg 0x0D 1] }.inputs = .writeReg 0x0D 1 :: [] ∧
      { s with inputs := [.writeBuf .txbuf 0 1] }.inputs = .writeBuf .txbuf 0 1 :: [] ∧
      { s with inputs := [.readReg 0x02] }.inputs = .readReg 0x02 :: [] := by decide

/-- Each clause of `HostBufferAccess`, at the last byte, at the capacity, and between valid length and capacity. -/
theorem witness_HostBufferAccess :
    let s : State := { upgState with cfg := smallCfg, txlen := 1, rxplen := 1, hconnLen := 1, hupgLen := 1 }
    busy s = false ∧ Memory.wf s ∧ (0 < s.cfg.pbufCap ∧ 0 < s.rxplen.toNat) ∧ (0 < s.cfg.hdrCap ∧ 0 < s.hupgLen.toNat) ∧
      s.hsok = true ∧ State.reset.hsok = false ∧ BufName.txbuf ≠ .pbuf ∧ BufName.txbuf ≠ .accept ∧
      bufCap .txbuf s ≤ 1 ∧ 0 < bufCap .txbuf s ∧ 0 < bufLen .txbuf s ∧
      (0 < bufCap .hkey s ∧ bufLen .hkey s ≤ 0) ∧ bufCap .accept s ≤ 28 := by
  refine ⟨by decide, resetWith_memory_wf Config.default, ?_⟩; decide

/-- 95 section 2.4 and L1-1 with 10 R44: the host reads `PBUF[1]` = `e` of Hello; the last byte of `ACCEPT` is `=`. -/
theorem test_hostReadBuf :
    (match exec .decode (openState [0x81, 0x85, 0x37, 0xfa, 0x21, 0x3d, 0x7f, 0x9f, 0x4d, 0x51, 0x58] []) with
      | .next s => (match hostReadBuf .pbuf 1 s with | .next t => some t.hostData | .fault _ => none | .refused _ => none)
      | .fault _ => none
      | .refused _ => none) = some 0x65 ∧
    (match exec .hsderive (hsState upgradeWord websocketWord rfcKey) with
      | .next s => (match hostReadBuf .accept 27 s with | .next t => some t.hostData | .fault _ => none | .refused _ => none)
      | .fault _ => none
      | .refused _ => none) = some 0x3D := by decide +kernel

/-- Two instances, of which one steps. -/
theorem witness_InstancesAreIndependent :
    (0 : Nat) ≠ 1 ∧ stepAt 0 { instances := [closedState, upgState] } = some { instances := [closedState, upgState] } :=
  ⟨by decide, rfl⟩

theorem witness_FrameOfHsderive : ∃ t, exec .hsderive closedState = .next t := ⟨_, rfl⟩

theorem witness_FrameOfEncoders :
    Instr.encclose ∈ [Instr.encode, Instr.encclose] ∧ ∃ t, exec .encclose (openState [] [.ok, .ok]) = .next t :=
  ⟨by decide, _, rfl⟩

/-- `DECODE` of a frame, whose outcome is not `IOTruncated`, with a byte of `PBUF` above `RXPLEN` and below, and at, the
capacity; and a frame instruction. -/
theorem witness_FrameOfDecoders :
    (∃ t, exec .decode { openState wholeFrame [] with cfg := { smallCfg with pbufCap := 2 } } = .next t ∧
      t.status ≠ .ioTruncated ∧ t.rxplen.toNat ≤ 1) ∧
    (Instr.framePing true 0 false 0).space = .frame ∧
    ∃ t, exec (.framePing true 0 false 0) (openState [] [.ok, .ok]) = .next t :=
  ⟨⟨_, rfl, by decide, by decide⟩, rfl, _, rfl⟩

end Sys2Proof.Tests
end

section
/-! SUPPORT. What a command can do to the session, said once for `exec` and for a command taken up again. -/

namespace Sys2Proof.Machine

/-! ### What a command writes while the session stays as it is -/

/-- `t` is `s` but for `STATUS`, the hidden position, and what `DecodeFrame` and `EncodeFrame` may write. -/
def SameButStreams (s t : State) : Prop :=
  t = { s with
    status := t.status, engine := t.engine, rx := t.rx, rxPos := t.rxPos, rxb0 := t.rxb0, rxb1 := t.rxb1
    rxplen := t.rxplen, rxmkey := t.rxmkey, pbuf := t.pbuf, freeCount := t.freeCount, tx := t.tx
    events := t.events, txDraws := t.txDraws, drawCount := t.drawCount }

theorem SameButStreams.refl (s : State) : SameButStreams s s := rfl

theorem SameButStreams.trans {s t u : State} (h : SameButStreams s t) (h' : SameButStreams t u) :
    SameButStreams s u := by
  unfold SameButStreams at *
  rw [h', h]

theorem SameButRx.streams {s t : State} (h : SameButRx s t) : SameButStreams s t := by
  unfold SameButStreams
  rw [h]

theorem SameButTx.streams {s t : State} (h : SameButTx s t) : SameButStreams s t := by
  unfold SameButStreams
  rw [h]

theorem SameButStreams.sess {s t : State} (h : SameButStreams s t) : t.sess = s.sess := by rw [h]
theorem SameButStreams.owned {s t : State} (h : SameButStreams s t) : t.owned = s.owned := by rw [h]
theorem SameButStreams.closeRcvd {s t : State} (h : SameButStreams s t) : t.closeRcvd = s.closeRcvd := by rw [h]
theorem SameButStreams.hsok {s t : State} (h : SameButStreams s t) : t.hsok = s.hsok := by rw [h]
theorem SameButStreams.released {s t : State} (h : SameButStreams s t) : t.released = s.released := by rw [h]
theorem SameButStreams.cfg {s t : State} (h : SameButStreams s t) : t.cfg = s.cfg := by rw [h]

theorem SameButStreams.setCloseRcvd {s t : State} (h : SameButStreams s t) (c : Bool) :
    SameButStreams { s with closeRcvd := c } { t with closeRcvd := c } := by
  unfold SameButStreams at *
  rw [h]

/-- The session of `s` closed as `CloseSession` leaves it (44 R266), but for the event history. -/
def closedFrom (c : Bool) (s : State) : State :=
  { s with sess := .closed, owned := false, released := s.released || s.owned, closeRcvd := c }

theorem SameButStreams.closedFrom {s t : State} (h : SameButStreams s t) (c : Bool) :
    SameButStreams (closedFrom c s) (closedFrom c t) := by
  unfold SameButStreams Machine.closedFrom at *
  rw [h]

theorem closeSession_same (s : State) : SameButStreams (closedFrom s.closeRcvd s) (closeSession s) := by
  cases h : s.owned with
  | true =>
    rw [closeSession_owned h]
    simp [SameButStreams, closedFrom, h]
  | false =>
    rw [closeSession_not_owned h]
    simp [SameButStreams, closedFrom, h]

@[simp] theorem closeSession_engine (s : State) : (closeSession s).engine = s.engine := by
  unfold closeSession
  split <;> rfl

theorem complete_same (e : Status) (s : State) : SameButStreams s (complete e s) := rfl

@[simp] theorem failSession_engine (e : Status) (s : State) : (failSession e s).engine = .idle := by
  simp [failSession]

theorem failSession_same (e : Status) {s t : State} (h : SameButStreams s t) :
    SameButStreams (closedFrom t.closeRcvd s) (failSession e t) :=
  ((h.trans (u := logEvent e (complete e t)) rfl).closedFrom _).trans (closeSession_same _)

/-! ### How a command that uses the streams leaves the session -/

/-- The commands that use the streams, by what they ask of the session while they run (44 R261, R270): `DECODE`,
`STEP` and `RUN` up to an echo; `ENCODE` and `ENCCLOSE`; `STEP` and `RUN` in their close reply. -/
inductive Work where
  | reading
  | encoding
  | replying

/-- The hidden positions in which such a command waits. -/
def Work.waitsIn : Work → Engine → Bool
  | .reading, .decode _ _ => true
  | .reading, .frame _ _ _ => true
  | .reading, .echo _ _ => true
  | .encoding, .encode _ => true
  | .replying, .reply _ => true
  | _, _ => false

/-- What such a command asks of the session. -/
def Work.legal (w : Work) (s : State) : Prop :=
  s.sess = .opened ∧
    match w with
    | .reading => s.closeRcvd = false
    | .encoding => True
    | .replying => s.closeRcvd = true

/-- How such a command leaves the session of `s`: as it was, done or waiting; with a close sentinel received, its
reply waiting at most; or closed, and then no command runs. -/
inductive Leaves (w : Work) (s t : State) : Prop
  | stays (h : SameButStreams s t) (hw : t.engine = .idle ∨ w.waitsIn t.engine = true)
  | sentinel (h : SameButStreams { s with closeRcvd := true } t) (hr : w = .reading)
      (hw : t.engine = .idle ∨ Work.replying.waitsIn t.engine = true)
  | closes (c : Bool) (h : SameButStreams (closedFrom c s) t) (he : t.engine = .idle)

theorem Leaves.after_same {w : Work} {s t u : State} (h : SameButStreams s t) (h' : Leaves w t u) : Leaves w s u := by
  cases h' with
  | stays h' hw => exact .stays (h.trans h') hw
  | sentinel h' hr hw => exact .sentinel ((h.setCloseRcvd true).trans h') hr hw
  | closes c h' he => exact .closes c ((h.closedFrom c).trans h') he

theorem Leaves.failSession (w : Work) (e : Status) {s t : State} (h : SameButStreams s t) :
    Leaves w s (failSession e t) :=
  .closes _ (failSession_same e h) (failSession_engine e t)

/-- A close reply is the reading command's last act. -/
theorem Leaves.reading_of_reply {s t : State} (h : Leaves .replying { s with closeRcvd := true } t) :
    Leaves .reading s t := by
  cases h with
  | stays h hw => exact .sentinel h rfl hw
  | sentinel h hr hw => cases hr
  | closes c h he => exact .closes c h he

theorem finishDecode_leaves {r : DecResult} {s t : State} (hr : ∀ u, decState r = some u → SameButRx s u)
    (h : finishDecode r = .next t) : Leaves .reading s t := by
  cases r with
  | frame o p u =>
    cases h
    exact .stays ((hr u rfl).streams.trans (complete_same _ u)) (.inl rfl)
  | close u =>
    cases h
    exact .sentinel (((hr u rfl).streams.setCloseRcvd true).trans (complete_same _ _)) rfl (.inl rfl)
  | err e u =>
    cases h
    exact .failSession _ e (hr u rfl).streams
  | waiting ph got u =>
    cases h
    exact .stays ((hr u rfl).streams.trans rfl) (.inr rfl)
  | overCap => cases h

theorem finishEncode_leaves {r : EncResult} {s t : State} (hr : SameButTx s (encState r))
    (h : finishEncode r = .next t) : Leaves .encoding s t := by
  cases r with
  | ok u =>
    cases h
    exact .stays (hr.streams.trans (complete_same _ u)) (.inl rfl)
  | ioError u =>
    cases h
    exact .failSession _ _ hr.streams
  | waiting job u =>
    cases h
    exact .stays (hr.streams.trans rfl) (.inr rfl)

theorem finishEcho_leaves {l : Loop} {r : EncResult} {s t : State} (hr : SameButTx s (encState r))
    (h : finishEcho l r = .next t) : Leaves .reading s t := by
  cases r with
  | ok u =>
    cases h
    exact .stays (hr.streams.trans rfl) (by cases l <;> simp [afterIteration, Work.waitsIn])
  | ioError u =>
    cases h
    exact .failSession _ _ hr.streams
  | waiting job u =>
    cases h
    exact .stays (hr.streams.trans rfl) (.inr rfl)

theorem finishReply_leaves {r : EncResult} {s t : State} (hr : SameButTx s (encState r))
    (h : finishReply r = .next t) : Leaves .replying s t := by
  cases r with
  | ok u =>
    cases h
    exact .closes _ (((hr.streams.trans (complete_same _ u)).closedFrom _).trans (closeSession_same _)) (by simp)
  | ioError u =>
    cases h
    exact .failSession _ _ hr.streams
  | waiting job u =>
    cases h
    exact .stays (hr.streams.trans rfl) (.inr rfl)

theorem finishFrame_leaves {l : Loop} {r : DecResult} {s t : State} (hr : ∀ u, decState r = some u → SameButRx s u)
    (h : finishFrame l r = .next t) : Leaves .reading s t := by
  cases r with
  | frame o p u => exact (finishEcho_leaves (encodeFrame_same o p u) h).after_same (hr u rfl).streams
  | close u => exact (finishReply_leaves (encodeFrame_same _ _ _) h).reading_of_reply.after_same (hr u rfl).streams
  | err e u =>
    cases h
    exact .failSession _ e (hr u rfl).streams
  | waiting ph got u =>
    cases h
    exact .stays ((hr u rfl).streams.trans rfl) (.inr rfl)
  | overCap => cases h

/-- One iteration is `DecodeFrame` and its dispatch, but where it is not legal (in no state that a run reaches) and a
header has arrived: then it takes the header and stands before the next one. -/
theorem iterate_cases (l : Loop) (got : List Byte) (s : State) :
    iterate l got s = finishFrame l (decodeFrame got s) ∨
    ∃ n, iterate l got s = .next (illegalState (atHeader l (takeRx n s))) := by
  cases hm : mayDecode s with
  | true => exact .inl (iterate_eq l got hm)
  | false =>
    unfold iterate decodeFrame
    cases hr : rxRead 2 got s with
    | got hd s' =>
      obtain ⟨-, -, rfl⟩ := rxRead_got hr
      have hm' : mayDecode (atHeader l (takeRx (2 - got.length) s)) = false := hm
      exact .inr ⟨2 - got.length, by simp only [dispatchFrame_header, hm', Bool.false_eq_true, if_false]⟩
    | truncated s' => exact .inl rfl
    | waiting g s' => exact .inl rfl

theorem iterate_leaves {l : Loop} {got : List Byte} {s t : State} (h : iterate l got s = .next t) :
    Leaves .reading s t := by
  rcases iterate_cases l got s with hi | ⟨n, hi⟩ <;> rw [hi] at h
  · exact finishFrame_leaves (fun u => decodeFrame_same) h
  · cases h
    exact .stays rfl (.inr rfl)

/-- What every iteration at a frame boundary keeps, the loop of `RUN` keeps. -/
theorem runLoop_induct {P : State → Prop}
    (hstep : ∀ u v, P u → u.engine = .frame .run .hdr [] → iterate .run [] u = .next v → P v)
    {n : Nat} {s t : State} (hs : P s) (h : runLoop n s = .next t) : P t := by
  induction n generalizing s with
  | zero =>
    cases h
    exact hs
  | succ n ih =>
    unfold runLoop at h
    split at h
    · rename_i hb
      cases hi : iterate .run [] s with
      | next v =>
        rw [hi] at h
        exact ih (hstep s v hs hb hi) h
      | fault r => simp [hi] at h
      | refused r => simp [hi] at h
    · cases h
      exact hs

theorem keepRunning_induct {P : State → Prop}
    (hstep : ∀ u v, P u → u.engine = .frame .run .hdr [] → iterate .run [] u = .next v → P v)
    {r : Result} (hr : ∀ u, r = .next u → P u) {t : State} (h : keepRunning r = .next t) : P t := by
  cases r with
  | next s => exact runLoop_induct hstep (hr s rfl) h
  | fault r => cases h
  | refused r => cases h

theorem keepRunning_leaves {r : Result} {s t : State} (hr : ∀ u, r = .next u → Leaves .reading s u)
    (h : keepRunning r = .next t) : Leaves .reading s t := by
  refine keepRunning_induct (P := Leaves .reading s) (fun u v hu hb hv => ?_) hr h
  cases hu with
  | stays hu hw => exact (iterate_leaves hv).after_same hu
  | sentinel hu hr hw => simp [hb, Work.waitsIn] at hw
  | closes c hu he => simp [hb] at he

/-- A command taken up again in its read leaves the session as its kind does. -/
theorem resumeRead_leaves {s t : State} (h : resumeRead s = .next t) :
    t = s ∨ (Work.reading.waitsIn s.engine = true ∧ Leaves .reading s t) := by
  unfold resumeRead at h
  split at h
  case h_1 ph got he =>
    exact .inr ⟨by rw [he]; rfl, finishDecode_leaves (fun u => resumeDecode_same) h⟩
  case h_2 l got he =>
    exact .inr ⟨by rw [he]; rfl, keepRunning_leaves (fun u => iterate_leaves) h⟩
  case h_3 l got he | h_4 l plen got he | h_5 l plen got he =>
    exact .inr ⟨by rw [he]; rfl, keepRunning_leaves (fun u => finishFrame_leaves fun v => resumeDecode_same) h⟩
  all_goals
    cases h
    exact .inl rfl

/-- A command taken up again in its write leaves the session as its kind does. -/
theorem resumeWrite_leaves {s t : State} (h : resumeWrite s = .next t) :
    t = s ∨ ∃ w : Work, w.waitsIn s.engine = true ∧ Leaves w s t := by
  unfold resumeWrite at h
  split at h
  case h_1 job he =>
    exact .inr ⟨.encoding, by rw [he]; rfl, finishEncode_leaves (resumeEncode_same job s) h⟩
  case h_2 l job he =>
    exact .inr ⟨.reading, by rw [he]; rfl,
      keepRunning_leaves (fun u => finishEcho_leaves (resumeEncode_same job s)) h⟩
  case h_3 job he =>
    exact .inr ⟨.replying, by rw [he]; rfl, finishReply_leaves (resumeEncode_same job s) h⟩
  all_goals
    cases h
    exact .inl rfl

end Sys2Proof.Machine
end

section
/-! SUPPORT. What a command can do to `PBUF` and to the position it waits in. -/

namespace Sys2Proof.Machine

/-- The part of the invariant that a command at work can touch beside the session: `PBUF` in canonical form, and a
hidden position that `DecodeFrame` can be in. -/
def receiveInv (s : State) : Prop := s.pbuf.wf ∧ positionInv s

/-- What `DecodeFrame` leaves so that `receiveInv` holds once its result is dispatched. -/
def DecResult.receiveInv : DecResult → Prop
  | .frame _ _ s => s.pbuf.wf
  | .close s => s.pbuf.wf
  | .err _ s => s.pbuf.wf
  | .waiting phase got s => s.pbuf.wf ∧ phaseInv s phase got
  | .overCap => True

/-- Only a command that waits in a read has a position to keep. -/
theorem receiveInv_of_not_inRead {s : State} (hp : s.pbuf.wf) (hr : inRead s = false) : receiveInv s := by
  refine ⟨hp, ?_⟩
  unfold inRead at hr
  unfold positionInv
  split at hr <;> simp_all

/-- A read that waits has taken fewer bytes than it is to take. -/
theorem rxRead_waiting_length {n : Nat} {sofar bs : List Byte} {s t : State}
    (h : rxRead n sofar s = .waiting bs t) : bs.length < n := by
  obtain ⟨hlt, -, rfl, -⟩ := rxRead_waiting h
  rw [List.length_append]
  omega

/-! ### `DecodeFrame` -/

theorem truncatedFrame_receiveInv (s : State) : (truncatedFrame s).receiveInv := bufUnwritten_wf _ _

theorem finishPayload_receiveInv {plen : Word} {raw : List Byte} {s : State} (hp : s.pbuf.wf) :
    (finishPayload plen raw s).receiveInv := by
  unfold finishPayload
  split <;> exact bufFill_wf hp 0 _

theorem readPayload_receiveInv {plen : Word} {got : List Byte} {s : State} (hp : s.pbuf.wf)
    (hc : plen.toNat ≤ s.cfg.pbufCap) : (readPayload plen got s).receiveInv := by
  unfold readPayload
  cases hr : rxRead plen.toNat got s with
  | got raw s' =>
    obtain ⟨-, -, rfl⟩ := rxRead_got hr
    exact finishPayload_receiveInv hp
  | truncated s' => exact truncatedFrame_receiveInv s'
  | waiting g s' =>
    have hg := rxRead_waiting_length hr
    obtain ⟨-, -, -, rfl⟩ := rxRead_waiting hr
    exact ⟨hp, hg, hc⟩

theorem readKey_receiveInv {plen : Word} {got : List Byte} {s : State} (hp : s.pbuf.wf)
    (hc : plen.toNat ≤ s.cfg.pbufCap) : (readKey plen got s).receiveInv := by
  unfold readKey
  cases hr : rxRead 4 got s with
  | got k s' =>
    obtain ⟨-, -, rfl⟩ := rxRead_got hr
    exact readPayload_receiveInv hp hc
  | truncated s' => exact truncatedFrame_receiveInv s'
  | waiting g s' =>
    have hg := rxRead_waiting_length hr
    obtain ⟨-, -, -, rfl⟩ := rxRead_waiting hr
    exact ⟨hp, hg, hc⟩

theorem afterLength_receiveInv {plen : Word} {s : State} (hp : s.pbuf.wf) : (afterLength plen s).receiveInv := by
  unfold afterLength
  split_ifs with hc
  · trivial
  · exact readKey_receiveInv hp (Nat.le_of_not_lt hc)
  · exact readPayload_receiveInv hp (Nat.le_of_not_lt hc)

theorem readExt_receiveInv {got : List Byte} {s : State} (hp : s.pbuf.wf) : (readExt got s).receiveInv := by
  unfold readExt
  cases hr : rxRead (extLen (headerLen7 s.rxb1)) got s with
  | got ext s' =>
    obtain ⟨-, -, rfl⟩ := rxRead_got hr
    exact afterLength_receiveInv hp
  | truncated s' => exact truncatedFrame_receiveInv s'
  | waiting g s' =>
    have hg := rxRead_waiting_length hr
    obtain ⟨-, -, -, rfl⟩ := rxRead_waiting hr
    exact ⟨hp, hg⟩

theorem afterHeader_receiveInv {b0 b1 : Byte} {s : State} (hp : s.pbuf.wf) : (afterHeader b0 b1 s).receiveInv := by
  unfold afterHeader
  split
  · exact hp
  · exact readExt_receiveInv hp

theorem decodeFrame_receiveInv {got : List Byte} {s : State} (hp : s.pbuf.wf) :
    (decodeFrame got s).receiveInv := by
  unfold decodeFrame
  cases hr : rxRead 2 got s with
  | got hd s' =>
    obtain ⟨-, -, rfl⟩ := rxRead_got hr
    exact afterHeader_receiveInv hp
  | truncated s' => exact truncatedFrame_receiveInv s'
  | waiting g s' =>
    have hg := rxRead_waiting_length hr
    obtain ⟨-, -, -, rfl⟩ := rxRead_waiting hr
    exact ⟨hp, hg⟩

/-- Taken up again, the payload length of the position still fits `PBUF`. -/
theorem resumeDecode_receiveInv {phase : RxPhase} {got : List Byte} {s : State} (hp : s.pbuf.wf)
    (hph : phaseInv s phase got) : (resumeDecode phase got s).receiveInv := by
  cases phase with
  | hdr => exact decodeFrame_receiveInv hp
  | ext => exact readExt_receiveInv hp
  | key plen => exact readKey_receiveInv hp hph.2
  | pay plen => exact readPayload_receiveInv hp hph.2

/-! ### The dispatch of its result, and the writes -/

@[simp] theorem closeSession_pbuf (s : State) : (closeSession s).pbuf = s.pbuf := by
  unfold closeSession
  split <;> rfl

@[simp] theorem failSession_pbuf (e : Status) (s : State) : (failSession e s).pbuf = s.pbuf := by
  simp [failSession]

theorem SameButTx.pbuf {s t : State} (h : SameButTx s t) : t.pbuf = s.pbuf := by rw [h]

theorem receiveInv_of_idle {s : State} (hp : s.pbuf.wf) (he : s.engine = .idle) : receiveInv s :=
  receiveInv_of_not_inRead hp (by simp [inRead, he])

theorem failSession_receiveInv (e : Status) {s : State} (hp : s.pbuf.wf) : receiveInv (failSession e s) :=
  receiveInv_of_idle (by simpa using hp) (failSession_engine e s)

theorem finishDecode_receiveInv {r : DecResult} {t : State} (hr : r.receiveInv) (h : finishDecode r = .next t) :
    receiveInv t := by
  cases r with
  | frame o p u =>
    cases h
    exact receiveInv_of_idle hr rfl
  | close u =>
    cases h
    exact receiveInv_of_idle hr rfl
  | err e u =>
    cases h
    exact failSession_receiveInv e hr
  | waiting ph got u =>
    cases h
    exact hr
  | overCap => cases h

theorem finishEncode_receiveInv {r : EncResult} {t : State} (hr : (encState r).pbuf.wf)
    (h : finishEncode r = .next t) : receiveInv t := by
  cases r with
  | ok u =>
    cases h
    exact receiveInv_of_idle hr rfl
  | ioError u =>
    cases h
    exact failSession_receiveInv _ hr
  | waiting job u =>
    cases h
    exact receiveInv_of_not_inRead hr rfl

theorem finishEcho_receiveInv {l : Loop} {r : EncResult} {t : State} (hr : (encState r).pbuf.wf)
    (h : finishEcho l r = .next t) : receiveInv t := by
  cases r with
  | ok u =>
    cases h
    cases l with
    | step => exact receiveInv_of_idle hr rfl
    | run => exact ⟨hr, Nat.zero_lt_two⟩
  | ioError u =>
    cases h
    exact failSession_receiveInv _ hr
  | waiting job u =>
    cases h
    exact receiveInv_of_not_inRead hr rfl

theorem finishReply_receiveInv {r : EncResult} {t : State} (hr : (encState r).pbuf.wf)
    (h : finishReply r = .next t) : receiveInv t := by
  cases r with
  | ok u =>
    cases h
    exact receiveInv_of_idle (by rw [closeSession_pbuf]; exact hr) (closeSession_engine _)
  | ioError u =>
    cases h
    exact failSession_receiveInv _ hr
  | waiting job u =>
    cases h
    exact receiveInv_of_not_inRead hr rfl

theorem finishFrame_receiveInv {l : Loop} {r : DecResult} {t : State} (hr : r.receiveInv)
    (h : finishFrame l r = .next t) : receiveInv t := by
  cases r with
  | frame o p u =>
    refine finishEcho_receiveInv ?_ h
    rw [(encodeFrame_same o p u).pbuf]
    exact hr
  | close u =>
    refine finishReply_receiveInv ?_ h
    rw [encodeClose, (encodeFrame_same _ _ _).pbuf]
    exact hr
  | err e u =>
    cases h
    exact failSession_receiveInv e hr
  | waiting ph got u =>
    cases h
    exact hr
  | overCap => cases h

theorem iterate_receiveInv {l : Loop} {got : List Byte} {s t : State} (hp : s.pbuf.wf)
    (h : iterate l got s = .next t) : receiveInv t := by
  rcases iterate_cases l got s with hi | ⟨n, hi⟩ <;> rw [hi] at h
  · exact finishFrame_receiveInv (decodeFrame_receiveInv hp) h
  · cases h
    exact ⟨hp, Nat.zero_lt_two⟩

theorem keepRunning_receiveInv {r : Result} {t : State} (hr : ∀ u, r = .next u → receiveInv u)
    (h : keepRunning r = .next t) : receiveInv t :=
  keepRunning_induct (fun _ _ hu _ hv => iterate_receiveInv hu.1 hv) hr h

theorem resumeRead_receiveInv {s t : State} (hs : receiveInv s) (h : resumeRead s = .next t) : receiveInv t := by
  obtain ⟨hp, hpos⟩ := hs
  unfold positionInv at hpos
  unfold resumeRead at h
  split at h <;> rename_i he <;> rw [he] at hpos
  case h_1 ph got => exact finishDecode_receiveInv (resumeDecode_receiveInv hp hpos) h
  case h_2 l got => exact keepRunning_receiveInv (fun u => iterate_receiveInv hp) h
  case h_3 | h_4 | h_5 =>
    exact keepRunning_receiveInv (fun u => finishFrame_receiveInv (resumeDecode_receiveInv hp hpos)) h
  all_goals
    cases h
    exact receiveInv_of_not_inRead hp (by simp [inRead, he])

theorem resumeWrite_receiveInv {s t : State} (hs : receiveInv s) (h : resumeWrite s = .next t) : receiveInv t := by
  have hw : ∀ job, (encState (resumeEncode job s)).pbuf.wf := fun job => by
    rw [(resumeEncode_same job s).pbuf]
    exact hs.1
  unfold resumeWrite at h
  split at h
  case h_1 job he => exact finishEncode_receiveInv (hw job) h
  case h_2 l job he => exact keepRunning_receiveInv (fun u => finishEcho_receiveInv (hw job)) h
  case h_3 job he => exact finishReply_receiveInv (hw job) h
  all_goals
    cases h
    exact hs

end Sys2Proof.Machine
end

section
/-! SUPPORT. What an instruction and what a step can do, said once. -/

namespace Sys2Proof.Machine

/-! ### An instruction -/

theorem mayDecode_iff (s : State) : mayDecode s = true ↔ Work.reading.legal s := by
  simp [mayDecode, Work.legal]

theorem mayEncode_iff (s : State) : mayEncode s = true ↔ Work.encoding.legal s := by
  simp [mayEncode, Work.legal]

/-- How an instruction leaves the session: only `STATUS` written; one of the four ends of the handshake and the
takeover; or what a command that uses the streams, legal in `s`, leaves. -/
inductive Ran (s t : State) : Prop
  | status (e : Status) (h : t = { s with status := e })
  | rejected (e : Status) (hs : s.sess = .hs) (h : t = failHandshake e s)
  | accepted (hs : s.sess = .hs) (h : t = acceptHandshake s)
  | taken (hs : s.sess = .upg) (h : t = complete .ok { s with sess := .opened, owned := true, rxPos := 0, tx := [] })
  | notTaken (hs : s.sess = .upg) (h : t = complete .streamTakeoverFailure { s with http := 500, sess := .closed })
  | streamed (w : Work) (hw : w ≠ .replying) (hl : w.legal s) (h : Leaves w s t) (hp : s.pbuf.wf → receiveInv t)

theorem Ran.illegalState (s : State) : Ran s (illegalState s) := .status _ rfl

theorem execHsderive_ran {s t : State} (h : execHsderive s = .next t) : Ran s t := by
  unfold execHsderive at h
  split_ifs at h with hs hc hu hk <;> cases h
  · exact .rejected _ hs rfl
  · exact .rejected _ hs rfl
  · exact .accepted hs rfl
  · exact .illegalState s

theorem execTakeok_ran {s t : State} (h : execTakeok s = .next t) : Ran s t := by
  unfold execTakeok at h
  split_ifs at h with hs <;> cases h
  · exact .taken hs rfl
  · exact .illegalState s

theorem execTakefail_ran {s t : State} (h : execTakefail s = .next t) : Ran s t := by
  unfold execTakefail at h
  split_ifs at h with hs <;> cases h
  · exact .notTaken hs rfl
  · exact .illegalState s

theorem execRelease_ran {s t : State} (h : execRelease s = .next t) : Ran s t := by
  unfold execRelease at h
  split_ifs at h with hm <;> cases h
  · exact .streamed .encoding (by simp) ((mayEncode_iff s).mp hm)
      (.closes _ ((closeSession_same s).trans (complete_same _ _)) rfl)
      fun hp => receiveInv_of_idle (by simpa using hp) rfl
  · exact .illegalState s

theorem execDecode_ran {s t : State} (h : execDecode s = .next t) : Ran s t := by
  unfold execDecode at h
  split_ifs at h with hm
  · exact .streamed .reading (by simp) ((mayDecode_iff s).mp hm) (finishDecode_leaves (fun u => decodeFrame_same) h)
      fun hp => finishDecode_receiveInv (decodeFrame_receiveInv hp) h
  · cases h
    exact .illegalState s

theorem finishEncode_encodeFrame_ran {o : BitVec 4} {p : List Byte} {s t : State} (hm : mayEncode s = true)
    (h : finishEncode (encodeFrame o p s) = .next t) : Ran s t :=
  .streamed .encoding (by simp) ((mayEncode_iff s).mp hm) (finishEncode_leaves (encodeFrame_same o p s) h)
    fun hp => finishEncode_receiveInv (by rw [(encodeFrame_same o p s).pbuf]; exact hp) h

theorem execEncode_ran {s t : State} (h : execEncode s = .next t) : Ran s t := by
  unfold execEncode at h
  split_ifs at h with hm hc
  · exact finishEncode_encodeFrame_ran hm h
  · cases h
    exact .illegalState s

theorem execEncclose_ran {s t : State} (h : execEncclose s = .next t) : Ran s t := by
  unfold execEncclose at h
  split_ifs at h with hm hc hl
  · cases h
    exact .status _ rfl
  · exact finishEncode_encodeFrame_ran hm h
  · cases h
    exact .illegalState s

theorem execStep_ran {s t : State} (h : execStep s = .next t) : Ran s t := by
  unfold execStep at h
  split_ifs at h with hm
  · exact .streamed .reading (by simp) ((mayDecode_iff s).mp hm) (iterate_leaves h) fun hp => iterate_receiveInv hp h
  · cases h
    exact .illegalState s

theorem execRun_ran {s t : State} (h : execRun s = .next t) : Ran s t := by
  unfold execRun at h
  split_ifs at h with hm
  · refine .streamed .reading (by simp) ((mayDecode_iff s).mp hm) (keepRunning_leaves (fun u hu => ?_) h)
      fun hp => keepRunning_receiveInv (fun u hu => ?_) h
    · cases hu
      exact .stays rfl (.inr rfl)
    · cases hu
      exact ⟨hp, Nat.zero_lt_two⟩
  · cases h
    exact .illegalState s

theorem runFrame_ran {o : BitVec 4} {f : Bool} {r : BitVec 3} {m : Bool} {l : BitVec 7} {s t : State}
    (h : runFrame o f r m l s = .next t) : Ran s t := by
  unfold runFrame at h
  split_ifs at h with hm
  · exact .streamed .reading (by simp) ((mayDecode_iff s).mp hm) (finishFrame_leaves (fun u => afterHeader_same) h)
      fun hp => finishFrame_receiveInv (afterHeader_receiveInv hp) h
  · cases h
    exact .illegalState s

/-- A frame instruction has the one meaning of its header fields. -/
theorem exec_frame {i : Instr} (hi : i.space = .frame) (s : State) :
    ∃ o f r m l, exec i s = runFrame o f r m l s := by
  cases i <;> cases hi <;> exact ⟨_, _, _, _, _, rfl⟩

theorem exec_ran {i : Instr} {s t : State} (h : exec i s = .next t) : Ran s t := by
  cases hi : i.space with
  | frame =>
    obtain ⟨o, f, r, m, l, he⟩ := exec_frame hi s
    exact runFrame_ran (he ▸ h)
  | command =>
    cases i with
    | nop | reservedLowA w | reservedLowC w | reservedBit4 w | reservedBit5 w | reservedBit6 w | reservedBit7 w =>
      cases h
      exact .status _ rfl
    | hsderive => exact execHsderive_ran h
    | takeok => exact execTakeok_ran h
    | takefail => exact execTakefail_ran h
    | decode => exact execDecode_ran h
    | encode => exact execEncode_ran h
    | encclose => exact execEncclose_ran h
    | step => exact execStep_ran h
    | run => exact execRun_ran h
    | release => exact execRelease_ran h
    | _ => cases hi

/-! ### The host's port -/

/-- `t` is `s` but for what the outside world writes when no command takes part: the operands, the host's buffers,
the port, the streams' arrivals and the inputs and draws still to come. -/
def SameButOutside (s t : State) : Prop :=
  t = { s with
    txopc := t.txopc, txlen := t.txlen, ccode := t.ccode, hconnLen := t.hconnLen, hupgLen := t.hupgLen
    hkeyLen := t.hkeyLen, txbuf := t.txbuf, hconn := t.hconn, hupg := t.hupg, hkey := t.hkey, rx := t.rx
    rxEnd := t.rxEnd, inputs := t.inputs, txDraws := t.txDraws, freeCount := t.freeCount, hostData := t.hostData }

theorem writeReg_same (index : Byte) (v : Word) (s : State) : SameButOutside s (writeReg index v s) := by
  unfold writeReg
  split <;> rfl

theorem writeReg_memory_wf (index : Byte) (v : Word) {s : State} (h : Memory.wf s) :
    Memory.wf (writeReg index v s) := by
  unfold writeReg
  split <;> exact h

theorem setBuf_same {b : BufName} (hb : bufWritable b = true) (v : Buffer) (s : State) :
    SameButOutside s (setBuf b v s) := by
  cases b with
  | pbuf | accept => cases hb
  | txbuf | hconn | hupg | hkey => rfl

@[simp] theorem getBuf_setBuf_same (b : BufName) (v : Buffer) (s : State) : getBuf b (setBuf b v s) = v := by
  cases b <;> rfl

theorem getBuf_wf (b : BufName) {s : State} (h : Memory.wf s) : (getBuf b s).wf := by
  obtain ⟨hp, ht, hc, hu, hk, ha⟩ := h
  cases b <;> assumption

theorem setBuf_memory_wf (b : BufName) {v : Buffer} {s : State} (hv : v.wf) (h : Memory.wf s) :
    Memory.wf (setBuf b v s) := by
  obtain ⟨hp, ht, hc, hu, hk, ha⟩ := h
  cases b <;> refine ⟨?_, ?_, ?_, ?_, ?_, ?_⟩ <;> assumption

/-- A register or buffer read changes nothing but the port and the count of free values. -/
theorem hostReadReg_next {index : Byte} {s t : State} (h : hostReadReg index s = .next t) :
    t = { s with hostData := t.hostData, freeCount := t.freeCount } := by
  unfold hostReadReg at h
  split at h <;> cases h <;> rfl

theorem hostReadBuf_next {b : BufName} {i : Nat} {s t : State} (h : hostReadBuf b i s = .next t) :
    t = { s with hostData := t.hostData, freeCount := t.freeCount } := by
  unfold hostReadBuf at h
  split_ifs at h <;> cases h <;> rfl

theorem hostWriteReg_next {index : Byte} {v : Word} {s t : State} (h : hostWriteReg index v s = .next t) :
    busy s = false ∧ t = writeReg index v s := by
  unfold hostWriteReg at h
  split_ifs at h with hb
  cases h
  exact ⟨Bool.eq_false_of_not_eq_true hb, rfl⟩

theorem hostWriteBuf_next {b : BufName} {i : Nat} {v : Byte} {s t : State} (h : hostWriteBuf b i v s = .next t) :
    busy s = false ∧ bufWritable b = true ∧ i < bufCap b s ∧ t = setBuf b (bufSet (getBuf b s) i v) s := by
  unfold hostWriteBuf at h
  split_ifs at h with hb hw hc
  cases h
  exact ⟨Bool.eq_false_of_not_eq_true hb, Bool.eq_true_of_not_eq_false hw, Nat.lt_of_not_le hc, rfl⟩

theorem applyReset_next {s t : State} (h : applyReset s = .next t) :
    s.owned = false ∧ busy s = false ∧ t = resetState s := by
  unfold applyReset at h
  split_ifs at h with hb
  cases h
  simp only [Bool.or_eq_true, not_or, Bool.not_eq_true] at hb
  exact ⟨hb.1, hb.2, rfl⟩

/-! ### A step -/

/-- What a step can be: the outside world's own doing, a reset, an instruction run, or the command in progress taken
up again in its read or in its write. -/
inductive Stepped (s t : State) : Prop
  | outside (h : SameButOutside s t) (hm : Memory.wf s → Memory.wf t)
  | reset (rest : List Input) (hi : s.inputs = .reset :: rest) (hb : busy s = false)
      (h : t = resetState { s with inputs := rest })
  | ran (i : Instr) (rest : List Input) (hb : busy s = false) (h : exec i { s with inputs := rest } = .next t)
  | readOn (rest : List Input) (rx : List Byte) (e : RxEnd)
      (h : resumeRead { s with inputs := rest, rx := rx, rxEnd := e } = .next t)
  | wroteOn (rest : List Input) (ds : List TxDraw) (h : resumeWrite { s with inputs := rest, txDraws := ds } = .next t)

theorem Stepped.of_hostRead {s t : State} {rest : List Input}
    (h : t = { s with inputs := rest, hostData := t.hostData, freeCount := t.freeCount }) : Stepped s t := by
  rw [h]
  exact .outside rfl id

theorem applyInput_stepped {i : Input} {s t : State} {rest : List Input} (hi : s.inputs = i :: rest)
    (h : applyInput i { s with inputs := rest } = .next t) : Stepped s t := by
  cases i with
  | writeReg index v =>
    simp only [applyInput] at h
    split at h
    · unfold runCommand at h
      split_ifs at h with hb
      exact .ran _ rest (Bool.eq_false_of_not_eq_true hb) h
    · obtain ⟨-, rfl⟩ := hostWriteReg_next h
      exact .outside (writeReg_same index v { s with inputs := rest })
        (writeReg_memory_wf index v (s := { s with inputs := rest }))
  | readReg index => exact .of_hostRead (hostReadReg_next (s := { s with inputs := rest }) h)
  | writeBuf b i v =>
    obtain ⟨-, hw, -, rfl⟩ := hostWriteBuf_next h
    exact .outside (setBuf_same hw _ { s with inputs := rest })
      fun hm => setBuf_memory_wf b (bufSet_wf (getBuf_wf b hm) i v) hm
  | readBuf b i => exact .of_hostRead (hostReadBuf_next (s := { s with inputs := rest }) h)
  | reset =>
    obtain ⟨-, hb, rfl⟩ := applyReset_next h
    exact .reset rest hi hb rfl
  | peerSend bs =>
    simp only [applyInput, peerSend] at h
    split at h
    · exact .readOn rest _ _ h
    · cases h
      exact .outside rfl id
  | peerEnd kind =>
    simp only [applyInput, peerEnd] at h
    split at h
    · exact .readOn rest _ _ h
    · cases h
      exact .outside rfl id
  | transport d =>
    simp only [applyInput, transport] at h
    split at h
    · exact .wroteOn rest _ h
    · cases h
      exact .outside rfl id

theorem step_of_inputs {s : State} {i : Input} {rest : List Input} (hi : s.inputs = i :: rest) :
    step s = applyInput i { s with inputs := rest } := by
  unfold step
  rw [hi]

theorem step_stepped {s t : State} (h : step s = .next t) : Stepped s t := by
  cases hi : s.inputs with
  | nil =>
    unfold step at h
    rw [hi] at h
    cases h
    exact .outside rfl id
  | cons i rest => exact applyInput_stepped hi (step_of_inputs hi ▸ h)

end Sys2Proof.Machine
end

section
/-! The session: the invariant, the transitions of `SESS` and the `STATE` register. -/

namespace Sys2Proof.Machine

/-! ### The invariant -/

theorem Work.legal_of_engineInv {w : Work} {s : State} (hw : w.waitsIn s.engine = true) (h : engineInv s) :
    w.legal s := by
  unfold engineInv at h
  cases w <;> split at h <;> simp_all [Work.waitsIn, Work.legal]

theorem engineInv_of_waitsIn {w : Work} {s : State} (hw : s.engine = .idle ∨ w.waitsIn s.engine = true)
    (h : w.legal s) : engineInv s := by
  unfold engineInv
  cases w <;> split <;> simp_all [Work.waitsIn, Work.legal]

theorem Leaves.cfg {w : Work} {s t : State} (h : Leaves w s t) : t.cfg = s.cfg := by
  cases h with
  | stays h => exact h.cfg
  | sentinel h => exact h.cfg
  | closes c h => exact h.cfg

theorem Leaves.memory_wf {w : Work} {s t : State} (h : Leaves w s t) (hm : Memory.wf s) (hp : t.pbuf.wf) :
    Memory.wf t := by
  obtain ⟨-, hm⟩ := hm
  refine ⟨hp, ?_⟩
  cases h with
  | stays h => rw [h]; exact hm
  | sentinel h => rw [h]; exact hm
  | closes c h => rw [h]; exact hm

theorem Leaves.sessionInv {w : Work} {s t : State} (h : Leaves w s t) (hl : w.legal s) (hs : sessionInv s) :
    sessionInv t := by
  obtain ⟨hown, hrel, hcl, hacc, hhs, hup, hhttp⟩ := hs
  cases h with
  | stays h =>
    rw [h]
    exact ⟨hown, hrel, hcl, hacc, hhs, hup, hhttp⟩
  | sentinel h =>
    rw [h]
    exact ⟨hown, hrel, fun _ => .inl hl.1, hacc, hhs, hup, hhttp⟩
  | closes c h =>
    rw [h]
    exact ⟨by simp [closedFrom], fun _ => rfl, fun _ => .inr rfl, hacc, by simp [closedFrom], by simp [closedFrom],
      hhttp⟩

theorem Leaves.engineInv {w : Work} {s t : State} (h : Leaves w s t) (hl : w.legal s) : engineInv t := by
  cases h with
  | stays h hw => exact engineInv_of_waitsIn hw (by rw [h]; exact hl)
  | sentinel h hr hw => exact engineInv_of_waitsIn hw (by rw [h]; exact ⟨hl.1, rfl⟩)
  | closes c h he => simp [Machine.engineInv, he]

/-- A command that uses the streams keeps the invariant. -/
theorem Leaves.runInv {w : Work} {s t : State} (h : Leaves w s t) (hl : w.legal s) (hs : runInv s)
    (ht : receiveInv t) : runInv t := by
  obtain ⟨hm, hsess, -, -⟩ := hs
  obtain ⟨hp, hpos⟩ := ht
  exact ⟨h.memory_wf hm hp, h.sessionInv hl hsess, h.engineInv hl, hpos⟩

theorem runInv.receiveInv {s : State} (hs : runInv s) : receiveInv s := by
  obtain ⟨⟨hp, -⟩, -, -, hpos⟩ := hs
  exact ⟨hp, hpos⟩

theorem runInv.engineInv {s : State} (hs : runInv s) : engineInv s := by
  obtain ⟨-, -, heng, -⟩ := hs
  exact heng

theorem runInv_of_idle {s : State} (hm : Memory.wf s) (hs : sessionInv s) (he : s.engine = .idle) : runInv s :=
  ⟨hm, hs, by simp [engineInv, he], by simp [positionInv, he]⟩

theorem failHandshake_sessionInv (e : Status) {s : State} (hh : s.sess = .hs) (hs : sessionInv s) :
    sessionInv (failHandshake e s) := by
  obtain ⟨hown, hrel, hcl, -⟩ := hs
  simp_all [sessionInv, failHandshake, complete]

theorem acceptHandshake_sessionInv {s : State} (hh : s.sess = .hs) (hs : sessionInv s) :
    sessionInv (acceptHandshake s) := by
  obtain ⟨hown, hrel, hcl, -⟩ := hs
  simp_all [sessionInv, acceptHandshake, complete]

theorem acceptHandshake_memory_wf {s : State} (hm : Memory.wf s) : Memory.wf (acceptHandshake s) := by
  obtain ⟨hp, ht, hc, hu, hk, ha⟩ := hm
  exact ⟨hp, ht, hc, hu, hk, bufFill_wf ha 0 _⟩

theorem exec_keeps_runInv {i : Instr} {s t : State} (hs : runInv s) (h : exec i s = .next t) :
    runInv t ∧ t.cfg = s.cfg := by
  have hp := hs.receiveInv.1
  cases exec_ran h with
  | status e h =>
    subst h
    exact ⟨hs, rfl⟩
  | streamed w hw hl h ht => exact ⟨h.runInv hl hs (ht hp), h.cfg⟩
  | rejected e hh h =>
    obtain ⟨hm, hsess, -, -⟩ := hs
    subst h
    exact ⟨runInv_of_idle hm (failHandshake_sessionInv e hh hsess) rfl, rfl⟩
  | accepted hh h =>
    obtain ⟨hm, hsess, -, -⟩ := hs
    subst h
    exact ⟨runInv_of_idle (acceptHandshake_memory_wf hm) (acceptHandshake_sessionInv hh hsess) rfl, rfl⟩
  | taken hu h | notTaken hu h =>
    obtain ⟨hm, ⟨hown, hrel, hcl, hacc, hhs, hup, hhttp⟩, -, -⟩ := hs
    subst h
    refine ⟨runInv_of_idle hm ?_ rfl, rfl⟩
    simp_all [sessionInv, complete]

theorem resumeRead_keeps_runInv {s t : State} (hs : runInv s) (h : resumeRead s = .next t) :
    runInv t ∧ t.cfg = s.cfg := by
  have ht := resumeRead_receiveInv hs.receiveInv h
  rcases resumeRead_leaves h with rfl | ⟨hw, hl⟩
  · exact ⟨hs, rfl⟩
  · exact ⟨hl.runInv (Work.legal_of_engineInv hw hs.engineInv) hs ht, hl.cfg⟩

theorem resumeWrite_keeps_runInv {s t : State} (hs : runInv s) (h : resumeWrite s = .next t) :
    runInv t ∧ t.cfg = s.cfg := by
  have ht := resumeWrite_receiveInv hs.receiveInv h
  rcases resumeWrite_leaves h with rfl | ⟨w, hw, hl⟩
  · exact ⟨hs, rfl⟩
  · exact ⟨hl.runInv (Work.legal_of_engineInv hw hs.engineInv) hs ht, hl.cfg⟩

theorem resetState_runInv (s : State) : runInv (resetState s) :=
  runInv_of_idle (resetState_memory_wf s) (by simp [sessionInv, resetState, State.resetWith]) rfl

theorem SameButOutside.runInv {s t : State} (h : SameButOutside s t) (hs : runInv s) (hm : Memory.wf t) : runInv t := by
  obtain ⟨-, hs⟩ := hs
  refine ⟨hm, ?_⟩
  rw [h]
  exact hs

/-- Settles O46: by what a step can be (`Stepped`); commands by how they leave the session (`Leaves`). -/
theorem stepKeepsInv : Obligations.StepKeepsInv := by
  intro s t hs h
  cases step_stepped h with
  | outside h hm =>
    refine ⟨h.runInv hs (hm hs.1), ?_⟩
    rw [h]
  | reset rest hi hb h =>
    subst h
    exact ⟨resetState_runInv _, rfl⟩
  | ran i rest hb h => exact exec_keeps_runInv (s := { s with inputs := rest }) hs h
  | readOn rest rx e h => exact resumeRead_keeps_runInv (s := { s with inputs := rest, rx := rx, rxEnd := e }) hs h
  | wroteOn rest ds h => exact resumeWrite_keeps_runInv (s := { s with inputs := rest, txDraws := ds }) hs h

/-! ### The transitions of `SESS` -/

theorem Leaves.sess {w : Work} {s t : State} (h : Leaves w s t) : t.sess = s.sess ∨ t.sess = .closed := by
  cases h with
  | stays h => exact .inl h.sess
  | sentinel h => exact .inl h.sess
  | closes c h => exact .inr h.sess

theorem sessStepLegal_of_kept_or_closed {a b : Sess} (h : b = a ∨ b = .closed) : sessStepLegal a b := by
  rcases h with rfl | rfl
  · exact .inl rfl
  · cases a <;> simp [sessStepLegal]

theorem exec_sessStepLegal {i : Instr} {s t : State} (h : exec i s = .next t) : sessStepLegal s.sess t.sess := by
  cases exec_ran h with
  | status e h =>
    subst h
    exact .inl rfl
  | streamed w hw hl h => exact sessStepLegal_of_kept_or_closed h.sess
  | rejected e hs h =>
    subst h
    exact sessStepLegal_of_kept_or_closed (.inr rfl)
  | accepted hs h =>
    subst h
    exact .inr (.inl ⟨hs, rfl⟩)
  | taken hs h =>
    subst h
    exact .inr (.inr (.inr (.inl ⟨hs, rfl⟩)))
  | notTaken hs h =>
    subst h
    exact sessStepLegal_of_kept_or_closed (.inr rfl)

/-- Settles O47: the legal transitions by what a step can be (`Stepped`), the reset by the reset state. -/
theorem sessTransitionsAreLegal : Obligations.SessTransitionsAreLegal := by
  refine ⟨⟨rfl, rfl, rfl, rfl⟩, fun s t h => ⟨fun hi => ?_, fun hi => ?_⟩⟩
  · cases step_stepped h with
    | outside h => exact .inl (congrArg State.sess h).symm
    | reset rest hr hb h => exact absurd (by rw [hr]; rfl) hi
    | ran i rest hb h => exact exec_sessStepLegal (s := { s with inputs := rest }) h
    | readOn rest rx e h =>
      refine sessStepLegal_of_kept_or_closed ?_
      rcases resumeRead_leaves h with rfl | ⟨-, hl⟩
      · exact .inl rfl
      · exact hl.sess
    | wroteOn rest ds h =>
      refine sessStepLegal_of_kept_or_closed ?_
      rcases resumeWrite_leaves h with rfl | ⟨w, -, hl⟩
      · exact .inl rfl
      · exact hl.sess
  · obtain ⟨rest, hr⟩ := List.head?_eq_some_iff.mp hi
    rw [step_of_inputs hr] at h
    obtain ⟨-, -, rfl⟩ := applyReset_next h
    rfl

/-! ### The `STATE` register -/

/-- 10 R27: where each field of `STATE` stands. -/
theorem stateReg_fields (s : State) :
    (stateReg s).extractLsb' 0 2 = sessCode s.sess ∧ (stateReg s).getLsbD 2 = s.owned ∧
    (stateReg s).getLsbD 3 = busy s ∧ (stateReg s).getLsbD 4 = s.closeRcvd ∧ (stateReg s).getLsbD 5 = s.hsok ∧
    (stateReg s).getLsbD 6 = s.released ∧ (stateReg s).getLsbD 7 = false := by
  unfold stateReg
  generalize s.released = r, s.hsok = a, s.closeRcvd = c, busy s = b, s.owned = o, sessCode s.sess = x
  revert r a c b o x
  decide

/-- A busy state whose session is that of `s` packs as `s` does, with `BUSY` 1. -/
theorem SameButStreams.stateReg {s t : State} (h : SameButStreams s t) (hb : busy t = true) :
    stateReg t = stateReg s ||| 0x08 := by
  unfold Machine.stateReg
  rw [hb, h.released, h.hsok, h.closeRcvd, h.owned, h.sess]
  generalize s.released = r, s.hsok = a, s.closeRcvd = c, busy s = b, s.owned = o, sessCode s.sess = x
  revert r a c b o x
  decide

theorem stateSeen_busy {s : State} (hb : busy s = true) : stateSeen s ||| 0x08 = stateSeen s :=
  ((SameButStreams.refl { s with closeRcvd := closeRcvdSeen s }).stateReg hb).symm

theorem SameButStreams.stateSeen {s t : State} {c : Bool}
    (h : SameButStreams { s with closeRcvd := c } { t with closeRcvd := c }) (hs : closeRcvdSeen s = c)
    (ht : closeRcvdSeen t = c) (hb : busy t = true) :
    stateSeen t = stateSeen s ||| 0x08 := by
  unfold Machine.stateSeen
  rw [hs, ht]
  exact h.stateReg hb

theorem closeRcvdSeen_of_replying {s : State} (h : Work.replying.waitsIn s.engine = true) :
    closeRcvdSeen s = false := by
  unfold closeRcvdSeen
  split <;> simp_all [Work.waitsIn]

theorem closeRcvdSeen_of_not_replying {w : Work} (hw : w ≠ .replying) {s : State}
    (h : s.engine = .idle ∨ w.waitsIn s.engine = true) : closeRcvdSeen s = s.closeRcvd := by
  unfold closeRcvdSeen
  cases w <;> split <;> simp_all [Work.waitsIn]

/-- While a command waits the host reads `STATE` as before the command, with `BUSY` 1 (10 R24, log 26). -/
theorem Leaves.stateSeen {w : Work} {s t : State} (h : Leaves w s t) (hl : w.legal s)
    (hw : s.engine = .idle ∧ w ≠ .replying ∨ w.waitsIn s.engine = true) (hb : busy t = true) :
    stateSeen t = stateSeen s ||| 0x08 := by
  have idle : t.engine ≠ .idle := by simpa [busy] using hb
  cases h with
  | stays h ht =>
    have ht := ht.resolve_left idle
    cases hr : w with
    | replying =>
      subst hr
      have hs := closeRcvdSeen_of_replying (hw.resolve_left fun hi => hi.2 rfl)
      exact (h.setCloseRcvd false).stateSeen hs (closeRcvdSeen_of_replying ht) hb
    | reading | encoding =>
      have hr : w ≠ .replying := by simp [hr]
      have hs := closeRcvdSeen_of_not_replying hr (hw.imp_left And.left)
      refine (h.setCloseRcvd s.closeRcvd).stateSeen hs ?_ hb
      rw [closeRcvdSeen_of_not_replying hr (.inr ht), h.closeRcvd]
  | sentinel h hr ht =>
    subst hr
    have hs := closeRcvdSeen_of_not_replying (by simp) (hw.imp_left And.left)
    have hc := closeRcvdSeen_of_replying (ht.resolve_left idle)
    exact SameButStreams.stateSeen (s := s) (h.setCloseRcvd false) (hs.trans hl.2) hc hb
  | closes c h he => exact absurd he idle

theorem exec_stateSeen {i : Instr} {s t : State} (hs : busy s = false) (h : exec i s = .next t) (hb : busy t = true) :
    stateSeen t = stateSeen s ||| 0x08 := by
  have he : s.engine = .idle := by simpa [busy] using hs
  cases exec_ran h with
  | status e h =>
    rw [h] at hb
    exact absurd (hs.symm.trans hb) (by simp)
  | streamed w hw hl h => exact h.stateSeen hl (.inl ⟨he, hw⟩) hb
  | rejected e hh h | accepted hh h | taken hu h | notTaken hu h =>
    subst h
    cases hb

theorem step_stateSeen {s t : State} (hs : runInv s) (hb : busy s = true) (h : step s = .next t) (ht : busy t = true) :
    stateSeen t = stateSeen s := by
  cases step_stepped h with
  | outside h =>
    rw [h]
    rfl
  | reset rest hi hi' h => simp [hb] at hi'
  | ran i rest hi h => simp [hb] at hi
  | readOn rest rx e h =>
    rcases resumeRead_leaves h with rfl | ⟨hw, hl⟩
    · rfl
    · rw [← stateSeen_busy hb]
      exact hl.stateSeen (Work.legal_of_engineInv hw hs.engineInv) (.inr hw) ht
  | wroteOn rest ds h =>
    rcases resumeWrite_leaves h with rfl | ⟨w, hw, hl⟩
    · rfl
    · rw [← stateSeen_busy hb]
      exact hl.stateSeen (Work.legal_of_engineInv hw hs.engineInv) (.inr hw) ht

theorem readReg_state (s : State) : readReg 0x02 s = (stateSeen s).setWidth 32 := rfl

theorem stateSeen_idle {s : State} (h : busy s = false) : stateSeen s = stateReg s := by
  have he : s.engine = .idle := by simpa [busy] using h
  exact stateSeen_eq s (by simp [he])

/-- Settles O53: the fields bit by bit; while a command waits, by how it leaves the session (`Leaves`). -/
theorem stateRegisterPacking : Obligations.StateRegisterPacking := by
  refine ⟨stateReg_fields, fun s hs => ?_, fun i s t hs h hb => ?_, fun s t hs hb h ht => ?_⟩
  · rw [readReg_state, stateSeen_idle hs]
  · rw [readReg_state, exec_stateSeen hs h hb, stateSeen_idle hs]
  · rw [readReg_state, readReg_state, step_stateSeen hs hb h ht]

end Sys2Proof.Machine
end

section
/-! The host's port: registers, buffers, and the command word. -/

namespace Sys2Proof.Machine

/-! ### Register accesses between commands -/

theorem hostReadReg_idle (index : Byte) {s : State} (hb : busy s = false) :
    hostReadReg index s = .next { s with hostData := readReg index s } := by
  simp [hostReadReg, hb]

theorem hostWriteReg_idle (index : Byte) (v : Word) {s : State} (hb : busy s = false) :
    hostWriteReg index v s = .next (writeReg index v s) := by
  simp [hostWriteReg, hb]

theorem runCommand_idle (v : Word) {s : State} (hb : busy s = false) :
    runCommand v s = exec (decodeCommand (v.setWidth 8)) s := by
  simp [runCommand, hb]

/-- Settles O1: the input is taken, and `BUSY` being 0 the low byte of the word is decoded and run. -/
theorem stepRunsCommandWord : Obligations.StepRunsCommandWord := by
  refine ⟨fun s rest v hi hb => ?_, fun s => rfl⟩
  rw [step_of_inputs hi]
  exact runCommand_idle v (s := { s with inputs := rest }) hb

/-! ### The register map -/

theorem readReg_reserved {index : Byte} (h : 0x0E ≤ index.toNat) (s : State) : readReg index s = 0 := by
  unfold readReg
  split
  case h_15 => rfl
  all_goals omega

theorem writeReg_reserved {index : Byte} (h : 0x0E ≤ index.toNat) (v : Word) (s : State) :
    writeReg index v s = s := by
  unfold writeReg
  split
  case h_7 => rfl
  all_goals omega

/-- A narrow register reads back as the low bits of what was written to it (log 2). -/
theorem setWidth_setWidth_eq_and (v : Word) {n : Nat} (h : n ≤ 32) :
    (v.setWidth n).setWidth 32 = v &&& BitVec.ofNat 32 (2 ^ n - 1) := by
  have hn : 2 ^ n ≤ 2 ^ 32 := Nat.pow_le_pow_right (by decide) h
  have hmask : (2 ^ n - 1) % 2 ^ 32 = 2 ^ n - 1 := Nat.mod_eq_of_lt (by have := Nat.two_pow_pos n; omega)
  apply BitVec.eq_of_toNat_eq
  simp only [BitVec.toNat_setWidth, BitVec.toNat_and, BitVec.toNat_ofNat, hmask, Nat.and_two_pow_sub_one_eq_mod]
  exact Nat.mod_eq_of_lt (Nat.lt_of_lt_of_le (Nat.mod_lt _ (Nat.two_pow_pos n)) hn)

/-- Settles O52: no arm of the map but its last has a reserved index; `TXOPC` holds the low four bits. -/
theorem reservedAndHardwiredBits : Obligations.ReservedAndHardwiredBits :=
  ⟨fun _ v s h => ⟨readReg_reserved h s, writeReg_reserved h v s⟩,
    fun v s => ⟨rfl, setWidth_setWidth_eq_and v (n := 4) (by decide)⟩⟩

theorem writeReg_readOnly {index : Byte} (h : index ∈ [(0x01 : Byte), 0x02, 0x03, 0x04, 0x05, 0x06, 0x07]) (v : Word)
    (s : State) : writeReg index v s = s := by
  simp only [List.mem_cons, List.not_mem_nil, or_false] at h
  rcases h with rfl | rfl | rfl | rfl | rfl | rfl | rfl <;> rfl

/-- Settles O60: the map by its definition; the host's accesses between commands are `readReg` and `writeReg`. -/
theorem registerMapReadsAndWrites : Obligations.RegisterMapReadsAndWrites := by
  refine ⟨fun s => ⟨rfl, rfl, rfl, rfl, rfl, rfl, rfl, rfl, rfl, rfl, rfl, rfl⟩, fun v s => ?_,
    fun _ v s h => writeReg_readOnly h v s, fun s rest index v hb => ⟨fun hi => ?_, fun hi h0 => ?_⟩,
    ⟨rfl, rfl, rfl, rfl, rfl, rfl, rfl, rfl, rfl, rfl, rfl⟩⟩
  · exact ⟨⟨rfl, rfl⟩, ⟨rfl, setWidth_setWidth_eq_and v (n := 16) (by decide)⟩, ⟨rfl, rfl⟩, ⟨rfl, rfl⟩, ⟨rfl, rfl⟩⟩
  · rw [step_of_inputs hi]
    exact hostReadReg_idle index (s := { s with inputs := rest }) hb
  · rw [step_of_inputs hi, applyInput, if_neg h0]
    exact hostWriteReg_idle index v (s := { s with inputs := rest }) hb

/-! ### Buffer accesses between commands -/

theorem bufWritable_eq_false_iff (b : BufName) : bufWritable b = false ↔ b = .pbuf ∨ b = .accept := by
  cases b <;> simp [bufWritable]

theorem hostReadBuf_overCap {b : BufName} {i : Nat} {s : State} (hc : bufCap b s ≤ i) :
    hostReadBuf b i s = .fault .noSuchBufferByte := by
  simp [hostReadBuf, hc]

theorem hostReadBuf_valid (b : BufName) {i : Nat} {s : State} (hb : busy s = false) (hc : i < bufCap b s)
    (hl : i < bufLen b s) :
    hostReadBuf b i s = .next { s with hostData := (bufGet (getBuf b s) i).setWidth 32 } := by
  simp [hostReadBuf, hb, Nat.not_le_of_lt hc, Nat.not_le_of_lt hl]

theorem hostReadBuf_beyond {b : BufName} {i : Nat} {s : State} (hc : i < bufCap b s) (hl : bufLen b s ≤ i) :
    hostReadBuf b i s = .next (readAny s) := by
  simp [hostReadBuf, Nat.not_le_of_lt hc, hl]

theorem hostWriteBuf_readOnly {b : BufName} {i : Nat} {v : Byte} {s : State} (hb : busy s = false)
    (hw : bufWritable b = false) : hostWriteBuf b i v s = .refused .readOnlyBuffer := by
  simp [hostWriteBuf, hb, hw]

theorem hostWriteBuf_overCap {b : BufName} {i : Nat} {v : Byte} {s : State} (hb : busy s = false)
    (hw : bufWritable b = true) (hc : bufCap b s ≤ i) : hostWriteBuf b i v s = .fault .noSuchBufferByte := by
  simp [hostWriteBuf, hb, hw, hc]

theorem hostWriteBuf_stores {b : BufName} {i : Nat} {v : Byte} {s : State} (hb : busy s = false)
    (hw : bufWritable b = true) (hc : i < bufCap b s) :
    hostWriteBuf b i v s = .next (setBuf b (bufSet (getBuf b s) i v) s) := by
  simp [hostWriteBuf, hb, hw, Nat.not_le_of_lt hc]

@[simp] theorem busy_setBuf (b : BufName) (v : Buffer) (s : State) : busy (setBuf b v s) = busy s := by
  cases b <;> rfl

@[simp] theorem bufCap_setBuf (b : BufName) (v : Buffer) (s : State) : bufCap b (setBuf b v s) = bufCap b s := by
  cases b <;> rfl

@[simp] theorem bufLen_setBuf (b : BufName) (v : Buffer) (s : State) : bufLen b (setBuf b v s) = bufLen b s := by
  cases b <;> rfl

/-- A byte written reads back at the port. -/
theorem hostReadBuf_setBuf_bufSet {b : BufName} {i : Nat} {v : Byte} {s : State} (hb : busy s = false)
    (hm : Memory.wf s) (hc : i < bufCap b s) (hl : i < bufLen b s) :
    hostReadBuf b i (setBuf b (bufSet (getBuf b s) i v) s) =
      .next { setBuf b (bufSet (getBuf b s) i v) s with hostData := v.setWidth 32 } := by
  rw [hostReadBuf_valid b (by simpa using hb) (by simpa using hc) (by simpa using hl), getBuf_setBuf_same,
    bufGet_bufSet_same (getBuf_wf b hm)]

/-- Settles O55: each access by the branch of the port it takes; the bytes by `bufGet` after `bufSet`. -/
theorem hostBufferAccess : Obligations.HostBufferAccess := by
  refine ⟨fun s i hb => ⟨hostReadBuf_valid .pbuf hb, hostReadBuf_valid .txbuf hb, hostReadBuf_valid .hconn hb,
      hostReadBuf_valid .hupg hb, hostReadBuf_valid .hkey hb,
      fun hc ha => hostReadBuf_valid .accept hb hc (by simpa [bufLen, ha] using hc),
      fun ha => by simp [bufLen, ha]⟩,
    fun s b i v hb => ⟨fun hw => hostWriteBuf_readOnly hb ((bufWritable_eq_false_iff b).mpr hw), fun hp ha hc => ?_,
      hostReadBuf_overCap, fun hc hl => ⟨_, hostReadBuf_beyond hc hl, rfl⟩, fun hm hp ha hc => ?_⟩,
    fun s b i v rest => ⟨step_of_inputs, step_of_inputs⟩⟩
  all_goals
    have hw : bufWritable b = true := by
      simpa using mt (bufWritable_eq_false_iff b).mp (not_or.mpr ⟨hp, ha⟩)
  · exact hostWriteBuf_overCap hb hw hc
  · refine ⟨_, hostWriteBuf_stores hb hw hc, ?_, ?_, fun j hj => ?_, hostReadBuf_setBuf_bufSet hb hm hc⟩ <;>
      rw [getBuf_setBuf_same]
    · exact bufGet_bufSet_same (getBuf_wf b hm) i v
    · exact bufGet_bufSet_other _ v hj

/-! ### Several instances -/

theorem stepAt_eq_some_iff {k : Nat} {sys sys' : System} :
    stepAt k sys = some sys' ↔
      ∃ s t, sys.instances[k]? = some s ∧ step s = .next t ∧ sys' = { instances := sys.instances.set k t } := by
  unfold stepAt
  cases sys.instances[k]? with
  | none => simp
  | some s => cases hs : step s <;> simp [hs, eq_comm]

/-- Two steps of different instances can be taken in the other order. -/
theorem stepAt_swap {j k : Nat} (hjk : j ≠ k) {sys a b : System} (hj : stepAt j sys = some a)
    (hk : stepAt k a = some b) : ∃ c, stepAt k sys = some c ∧ stepAt j c = some b := by
  obtain ⟨s, t, hs, hst, rfl⟩ := stepAt_eq_some_iff.mp hj
  obtain ⟨u, v, hu, huv, rfl⟩ := stepAt_eq_some_iff.mp hk
  simp only [List.getElem?_set_ne hjk] at hu
  refine ⟨_, stepAt_eq_some_iff.mpr ⟨u, v, hu, huv, rfl⟩, stepAt_eq_some_iff.mpr ⟨s, t, ?_, hst, ?_⟩⟩
  · simpa only [List.getElem?_set_ne hjk.symm] using hs
  · rw [List.set_comm _ _ hjk]

/-- Settles O56: each step reads and writes one entry of the list. -/
theorem instancesAreIndependent : Obligations.InstancesAreIndependent := by
  intro sys j k hjk
  refine ⟨Option.ext fun b => ?_, fun sys' h => ?_⟩
  · simp only [Option.bind_eq_some_iff]
    exact ⟨fun ⟨a, hj, hk⟩ => stepAt_swap hjk hj hk, fun ⟨a, hk, hj⟩ => stepAt_swap hjk.symm hk hj⟩
  · obtain ⟨s, t, hs, hst, rfl⟩ := stepAt_eq_some_iff.mp h
    exact ⟨List.getElem?_set_ne hjk, List.length_set⟩

end Sys2Proof.Machine
end

section
/-! SUPPORT. The reads of `DecodeFrame`: a frame that is there whole, a frame cut short, and what a read that waits
has left. -/

namespace Sys2Proof.Machine

/-! ### `RxRead` begun anew -/

/-- The bytes that stand at the front of RX are the ones a read of their number gives. -/
theorem rxRead_append {n : Nat} {a b : List Byte} {s : State} (h : s.rx = a ++ b) (hn : a.length = n) :
    rxRead n [] s = .got a { s with rx := b, rxPos := s.rxPos + n } := by
  subst hn
  rw [rxRead_enough (by simp [h])]
  simp [takeRx, h]

/-- The header bytes are there: `DecodeFrame` goes on after them. -/
theorem decodeFrame_header {b0 b1 : Byte} {r : List Byte} {s : State} (h : s.rx = b0 :: b1 :: r) :
    decodeFrame [] s = afterHeader b0 b1 { s with rx := r, rxPos := s.rxPos + 2 } := by
  rw [decodeFrame, rxRead_append (n := 2) (a := [b0, b1]) h rfl]
  rfl

theorem rxRead_zero (s : State) : rxRead 0 [] s = .got [] s := rxRead_append (a := []) rfl rfl

theorem takeRx_all (s : State) : takeRx s.rx.length s = { s with rx := [], rxPos := s.rxPos + s.rx.length } := by
  simp [takeRx]

/-- Settles O24: the three ends of a read, by the bytes there are and by whether RX is open. -/
theorem rxReadAllOrNothing : Obligations.RxReadAllOrNothing := by
  intro n s
  refine ⟨fun a b => rxRead_append, fun h ho => ?_, fun h he => ?_, rxRead_zero s⟩
  · rw [rxRead_short_opened h ho, takeRx_all, List.nil_append]
  · rw [rxRead_short_ended h he, takeRx_all]

/-! ### A frame cut short -/

/-- `u` is `s` after `DecodeFrame` read `n` bytes that do not complete a frame. -/
def ReadPart (n : Nat) (s u : State) : Prop :=
  u = { s with
    rxb0 := u.rxb0, rxb1 := u.rxb1, rxmkey := u.rxmkey, rx := s.rx.drop n, rxPos := s.rxPos + n }

theorem ReadPart.rx {n : Nat} {s u : State} (h : ReadPart n s u) : u.rx = s.rx.drop n := by rw [h]

theorem ReadPart.rxEnd {n : Nat} {s u : State} (h : ReadPart n s u) : u.rxEnd = s.rxEnd := by rw [h]

theorem ReadPart.trans {n m : Nat} {s u v : State} (h : ReadPart n s u) (h' : ReadPart m u v) :
    ReadPart (n + m) s v := by
  unfold ReadPart at *
  rw [h', h, List.drop_drop, Nat.add_assoc]

theorem takeRx_readPart (n : Nat) (s : State) : ReadPart n s (takeRx n s) := rfl

/-- `DecodeFrame` takes every byte that has arrived and then lacks some: it waits on an open RX, and is truncated on
one that ended or failed. -/
def RunsDry (s : State) (r : DecResult) : Prop :=
  ∃ u, ReadPart s.rx.length s u ∧
    ((s.rxEnd = .opened ∧ ∃ ph got, r = .waiting ph got u) ∨ (s.rxEnd ≠ .opened ∧ r = truncatedFrame u))

/-- What runs dry from where a read stopped runs dry from where it began. -/
theorem RunsDry.of_readPart {n : Nat} {s u : State} {r : DecResult} (hn : n ≤ s.rx.length) (hu : ReadPart n s u)
    (h : RunsDry u r) : RunsDry s r := by
  obtain ⟨v, hv, hr⟩ := h
  have hlen : n + u.rx.length = s.rx.length := by rw [hu.rx, List.length_drop]; omega
  rw [hu.rxEnd] at hr
  exact ⟨v, hlen ▸ hu.trans hv, hr⟩

/-- A single read of `DecodeFrame` that lacks bytes, `ph` being the position it waits in. -/
theorem runsDry_of_short {n : Nat} {got : List Byte} {s : State} {r : DecResult} {ph : RxPhase}
    (h : s.rx.length < n - got.length)
    (hw : ∀ g u, rxRead n got s = .waiting g u → r = .waiting ph g u)
    (ht : ∀ u, rxRead n got s = .truncated u → r = truncatedFrame u) : RunsDry s r := by
  refine ⟨takeRx s.rx.length s, takeRx_readPart _ s, ?_⟩
  by_cases ho : s.rxEnd = .opened
  · exact .inl ⟨ho, ph, _, hw _ _ (rxRead_short_opened h ho)⟩
  · exact .inr ⟨ho, ht _ (rxRead_short_ended h ho)⟩

theorem readPayload_runsDry {plen : Word} {got : List Byte} {s : State} (h : s.rx.length < plen.toNat - got.length) :
    RunsDry s (readPayload plen got s) :=
  runsDry_of_short (ph := .pay plen) h (fun g u hr => by rw [readPayload, hr]) (fun u hr => by rw [readPayload, hr])

theorem readKey_runsDry {plen : Word} {got : List Byte} {s : State}
    (h : s.rx.length < (4 - got.length) + plen.toNat) : RunsDry s (readKey plen got s) := by
  by_cases hk : s.rx.length < 4 - got.length
  · exact runsDry_of_short (ph := .key plen) hk (fun g u hr => by rw [readKey, hr]) (fun u hr => by rw [readKey, hr])
  · have hk := Nat.le_of_not_lt hk
    rw [readKey, rxRead_enough hk]
    refine RunsDry.of_readPart hk (u := setKey _ (takeRx _ s)) rfl (readPayload_runsDry ?_)
    simp only [setKey_rx, takeRx_rx, List.length_drop, List.length_nil]
    omega

theorem afterLength_runsDry {plen : Word} {s : State} (hc : plen.toNat ≤ s.cfg.pbufCap)
    (h : s.rx.length < (if headerMasked s.rxb1 then 4 else 0) + plen.toNat) : RunsDry s (afterLength plen s) := by
  rw [afterLength, if_neg (Nat.not_lt.mpr hc)]
  split_ifs at h ⊢
  · exact readKey_runsDry h
  · exact readPayload_runsDry (by simpa using h)

theorem readExt_runsDry {got : List Byte} {s : State} (h : s.rx.length < extLen (headerLen7 s.rxb1) - got.length) :
    RunsDry s (readExt got s) :=
  runsDry_of_short (ph := .ext) h (fun g u hr => by rw [readExt, hr]) (fun u hr => by rw [readExt, hr])

theorem decodeFrame_runsDry_header {got : List Byte} {s : State} (h : s.rx.length < 2 - got.length) :
    RunsDry s (decodeFrame got s) :=
  runsDry_of_short (ph := .hdr) h (fun g u hr => by rw [decodeFrame, hr]) (fun u hr => by rw [decodeFrame, hr])

theorem headerCutShort {b0 b1 : Byte} {r : List Byte} {cfg : Config} (h : frameCutShort (b0 :: b1 :: r) cfg) :
    headerOpcode b0 ≠ 0x8 ∧
      (r.length < extLen (headerLen7 b1) ∨
        (extLen (headerLen7 b1) ≤ r.length ∧
          (lenDecode (headerLen7 b1) (r.take (extLen (headerLen7 b1)))).toNat ≤ cfg.pbufCap ∧
          r.length < extLen (headerLen7 b1) + (if headerMasked b1 then 4 else 0) +
            (lenDecode (headerLen7 b1) (r.take (extLen (headerLen7 b1)))).toNat)) := by
  rcases h with h | ⟨_, _, _, h, hr⟩
  · simp at h
  · cases h
    exact hr

/-- The header is there and the rest of the frame is not. -/
theorem afterHeader_runsDry {b0 b1 : Byte} {s : State} (h : frameCutShort (b0 :: b1 :: s.rx) s.cfg) :
    RunsDry s (afterHeader b0 b1 s) := by
  obtain ⟨hop, hr⟩ := headerCutShort h
  rw [afterHeader, if_neg hop]
  refine RunsDry.of_readPart (Nat.zero_le _) (u := setHeader b0 b1 s) rfl ?_
  rcases hr with he | ⟨he, hc, hl⟩
  · exact readExt_runsDry he
  · have hx : extLen (headerLen7 b1) - ([] : List Byte).length ≤ s.rx.length := he
    rw [readExt, setHeader_rxb1, rxRead_enough (s := setHeader b0 b1 s) hx]
    refine RunsDry.of_readPart hx (u := takeRx _ (setHeader b0 b1 s)) rfl (afterLength_runsDry hc ?_)
    show (s.rx.drop (extLen (headerLen7 b1))).length < (if headerMasked b1 then 4 else 0) +
      (lenDecode (headerLen7 b1) (s.rx.take (extLen (headerLen7 b1)))).toNat
    rw [List.length_drop]
    omega

/-- `DecodeFrame` on bytes too few for the frame that begins there. -/
theorem decodeFrame_runsDry {s : State} (h : frameCutShort s.rx s.cfg) : RunsDry s (decodeFrame [] s) := by
  have hcut := h
  rcases h with h2 | ⟨b0, b1, r, hrx, -⟩
  · exact decodeFrame_runsDry_header h2
  · rw [decodeFrame_header hrx]
    rw [hrx] at hcut
    exact RunsDry.of_readPart (n := 2) (by simp [hrx]) (by simp [ReadPart, hrx]) (afterHeader_runsDry hcut)

/-- Taken up again with nothing unread, `DecodeFrame` lacks bytes in whichever read it waits. -/
theorem resumeDecode_runsDry {ph : RxPhase} {got : List Byte} {s : State} (hp : phaseInv s ph got) (hr : s.rx = []) :
    RunsDry s (resumeDecode ph got s) := by
  have h0 : s.rx.length = 0 := by simp [hr]
  cases ph with
  | hdr => exact decodeFrame_runsDry_header (by rw [h0]; exact Nat.sub_pos_of_lt hp)
  | ext => exact readExt_runsDry (by rw [h0]; exact Nat.sub_pos_of_lt hp)
  | key plen => exact readKey_runsDry (by rw [h0]; have := hp.1; omega)
  | pay plen => exact readPayload_runsDry (by rw [h0]; exact Nat.sub_pos_of_lt hp.1)

end Sys2Proof.Machine
end

section
/-! SUPPORT. The loop of `STEP` and `RUN`: `STEP` is one iteration, `RUN` an iteration and what `RUN` does
from there. -/

namespace Sys2Proof.Machine

/-! ### Where the loop of `RUN` ends -/

theorem runLoop_of_not_boundary {s : State} (h : s.engine ≠ .frame .run .hdr []) (n : Nat) :
    runLoop n s = .next s := by
  cases n with
  | zero => rfl
  | succ n => rw [runLoop, if_neg h]

/-- On an open RX with nothing unread an iteration waits for its header. -/
theorem iterate_starved (l : Loop) {s : State} (hr : s.rx = []) (ho : s.rxEnd = .opened) :
    iterate l [] s = .next (atHeader l s) := by
  rw [iterate, rxRead_short_opened (by simp [hr]) ho, hr]
  rfl

/-- There `RUN` stays where it is. -/
theorem runLoop_starved {s : State} (hr : s.rx = []) (ho : s.rxEnd = .opened) (n : Nat) : runLoop n s = .next s := by
  induction n with
  | zero => rfl
  | succ n ih =>
    rw [runLoop]
    split
    · rename_i hb
      have hs : atHeader .run s = s := by rw [atHeader, ← hb]
      rw [iterate_starved .run hr ho, hs]
      exact ih
    · rfl

theorem keepRunning_of_not_boundary {s : State} (h : s.engine ≠ .frame .run .hdr []) :
    keepRunning (.next s) = .next s :=
  runLoop_of_not_boundary h _

theorem keepRunning_failSession (e : Status) (s : State) :
    keepRunning (.next (failSession e s)) = .next (failSession e s) :=
  keepRunning_of_not_boundary (by simp)

/-- `STEP` leaves no iteration to do (44 R268). -/
theorem keepRunning_finishEcho_step (r : EncResult) : keepRunning (finishEcho .step r) = finishEcho .step r := by
  cases r with
  | ok s | waiting job s => exact keepRunning_of_not_boundary (by simp [afterIteration])
  | ioError s => exact keepRunning_failSession _ s

/-- After the close path there is no iteration to do (44 R270). -/
theorem keepRunning_finishReply (r : EncResult) : keepRunning (finishReply r) = finishReply r := by
  cases r with
  | ok s | waiting job s => exact keepRunning_of_not_boundary (by simp)
  | ioError s => exact keepRunning_failSession _ s

theorem keepRunning_finishFrame_step (r : DecResult) : keepRunning (finishFrame .step r) = finishFrame .step r := by
  cases r with
  | frame o p s => exact keepRunning_finishEcho_step _
  | close s => exact keepRunning_finishReply _
  | err e s => exact keepRunning_failSession e s
  | waiting ph got s => exact keepRunning_of_not_boundary (by simp)
  | overCap => rfl

/-! ### Every iteration that completes takes bytes (log 18) -/

/-- A frame that completes leaves fewer than `n` bytes unread; a read that waits leaves none, on an open RX. -/
def DecResult.Advances (n : Nat) : DecResult → Prop
  | .frame _ _ s => s.rx.length < n
  | .waiting _ _ s => s.rx = [] ∧ s.rxEnd = .opened
  | _ => True

theorem takeRx_length_le (n : Nat) (s : State) : (takeRx n s).rx.length ≤ s.rx.length := by
  rw [takeRx_rx, List.length_drop]
  exact Nat.sub_le _ _

theorem waiting_advances {n k : Nat} {sofar got : List Byte} {ph : RxPhase} {s t : State}
    (h : rxRead k sofar s = .waiting got t) : (DecResult.waiting ph got t).Advances n := by
  obtain ⟨-, ho, -, rfl⟩ := rxRead_waiting h
  exact ⟨by simp [takeRx], ho⟩

theorem finishPayload_advances {n : Nat} {plen : Word} {raw : List Byte} {s : State} (h : s.rx.length < n) :
    (finishPayload plen raw s).Advances n := by
  unfold finishPayload
  split
  · exact h
  · trivial

theorem readPayload_advances {n : Nat} {plen : Word} {got : List Byte} {s : State} (h : s.rx.length < n) :
    (readPayload plen got s).Advances n := by
  unfold readPayload
  cases hr : rxRead plen.toNat got s with
  | got raw s' =>
    obtain ⟨-, -, rfl⟩ := rxRead_got hr
    exact finishPayload_advances (Nat.lt_of_le_of_lt (takeRx_length_le _ s) h)
  | truncated s' => trivial
  | waiting g s' => exact waiting_advances hr

theorem readKey_advances {n : Nat} {plen : Word} {got : List Byte} {s : State} (h : s.rx.length < n) :
    (readKey plen got s).Advances n := by
  unfold readKey
  cases hr : rxRead 4 got s with
  | got k s' =>
    obtain ⟨-, -, rfl⟩ := rxRead_got hr
    exact readPayload_advances (Nat.lt_of_le_of_lt (takeRx_length_le _ s) h)
  | truncated s' => trivial
  | waiting g s' => exact waiting_advances hr

theorem afterLength_advances {n : Nat} {plen : Word} {s : State} (h : s.rx.length < n) :
    (afterLength plen s).Advances n := by
  unfold afterLength
  split_ifs
  · trivial
  · exact readKey_advances h
  · exact readPayload_advances h

theorem readExt_advances {n : Nat} {got : List Byte} {s : State} (h : s.rx.length < n) :
    (readExt got s).Advances n := by
  unfold readExt
  cases hr : rxRead (extLen (headerLen7 s.rxb1)) got s with
  | got ext s' =>
    obtain ⟨-, -, rfl⟩ := rxRead_got hr
    exact afterLength_advances (Nat.lt_of_le_of_lt (takeRx_length_le _ s) h)
  | truncated s' => trivial
  | waiting g s' => exact waiting_advances hr

theorem afterHeader_advances {n : Nat} {b0 b1 : Byte} {s : State} (h : s.rx.length < n) :
    (afterHeader b0 b1 s).Advances n := by
  unfold afterHeader
  split
  · trivial
  · exact readExt_advances h

/-- `DecodeFrame` begun anew takes at least the two header bytes (42 R211, R221). -/
theorem decodeFrame_advances (s : State) : (decodeFrame [] s).Advances s.rx.length := by
  unfold decodeFrame
  cases hr : rxRead 2 [] s with
  | got hd s' =>
    obtain ⟨h2, -, rfl⟩ := rxRead_got hr
    have h2 : 2 ≤ s.rx.length := h2
    refine afterHeader_advances ?_
    rw [takeRx_rx, List.length_drop, List.length_nil]
    omega
  | truncated s' => trivial
  | waiting g s' => exact waiting_advances hr

/-! ### The loop unfolded -/

theorem SameButStreams.mayDecode {s t : State} (h : SameButStreams s t) : mayDecode t = mayDecode s := by
  rw [h]
  rfl

/-- After an iteration `RUN` is done, or waits with nothing unread, or stands at the next frame with fewer bytes. -/
theorem iterate_run_cases {s t : State} (hm : mayDecode s = true) (h : iterate .run [] s = .next t) :
    t.engine ≠ .frame .run .hdr [] ∨ (t.rx = [] ∧ t.rxEnd = .opened) ∨
      (t.rx.length < s.rx.length ∧ mayDecode t = true) := by
  rw [iterate_eq .run [] hm] at h
  have hadv := decodeFrame_advances s
  have hsame := fun u => decodeFrame_same (got := []) (s := s) (t := u)
  generalize decodeFrame [] s = r at h hadv hsame
  cases r with
  | frame o p u =>
    have he := encodeFrame_same o p u
    simp only [finishFrame] at h
    generalize encodeFrame o p u = e at h he
    cases e with
    | ok v =>
      cases h
      refine .inr (.inr ⟨?_, ?_⟩)
      · exact (congrArg (List.length ∘ State.rx) he).trans_lt hadv
      · exact ((hsame u rfl).streams.trans he.streams).mayDecode.trans hm
    | ioError v | waiting job v =>
      cases h
      exact .inl (by simp)
  | close u =>
    simp only [finishFrame] at h
    generalize encodeClose _ _ _ = e at h
    cases e <;> cases h <;> exact .inl (by simp)
  | err e u =>
    cases h
    exact .inl (by simp)
  | waiting ph got u =>
    cases h
    exact .inr (.inl hadv)
  | overCap => cases h

/-- With enough fuel the loop does not depend on it (log 18). -/
theorem runLoop_fuel {n m : Nat} {s : State} (hm : mayDecode s = true) (hn : s.rx.length < n) (hn' : s.rx.length < m) :
    runLoop n s = runLoop m s := by
  induction n generalizing s m with
  | zero => exact absurd hn (Nat.not_lt_zero _)
  | succ n ih =>
    obtain ⟨m, rfl⟩ := Nat.exists_eq_succ_of_ne_zero (Nat.ne_zero_of_lt hn')
    rw [runLoop, runLoop]
    split
    · cases hi : iterate .run [] s with
      | next t =>
        rcases iterate_run_cases hm hi with hb | ⟨hr, ho⟩ | ⟨hlt, hm'⟩
        · simp only [runLoop_of_not_boundary hb]
        · simp only [runLoop_starved hr ho]
        · exact ih hm' (by omega) (by omega)
      | fault e => rfl
      | refused e => rfl
    · rfl

/-- At a frame boundary `RUN` does an iteration and goes on from there (44 R272). -/
theorem keepRunning_boundary {s : State} (hb : s.engine = .frame .run .hdr []) (hm : mayDecode s = true) :
    keepRunning (.next s) = keepRunning (finishFrame .run (decodeFrame [] s)) := by
  rw [← iterate_eq .run [] hm]
  simp only [keepRunning]
  rw [runLoop, if_pos hb]
  cases hi : iterate .run [] s with
  | next t =>
    rcases iterate_run_cases hm hi with hb | ⟨hr, ho⟩ | ⟨hlt, hm'⟩
    · simp only [runLoop_of_not_boundary hb]
    · simp only [runLoop_starved hr ho]
    · exact runLoop_fuel hm' hlt (Nat.lt_succ_self _)
  | fault e => rfl
  | refused e => rfl

/-! ### `STEP`, `RUN` and a frame instruction as `DecodeFrame`, its dispatch, and what `RUN` does from there -/

theorem decodeFrame_at (e : Engine) (got : List Byte) (s : State) :
    decodeFrame got { s with engine := e } = decAt e (decodeFrame got s) := by
  unfold decodeFrame rxRead
  split_ifs <;> simp only [takeRx]
  · rw [← afterHeader_at]
  · rfl
  · rfl

theorem exec_step {s : State} (hm : mayDecode s = true) :
    exec .step s = keepRunning (finishFrame .step (decodeFrame [] s)) := by
  rw [keepRunning_finishFrame_step, ← iterate_eq .step [] hm]
  exact if_pos hm

theorem exec_run {s : State} (hm : mayDecode s = true) :
    exec .run s = keepRunning (finishFrame .run (decodeFrame [] s)) :=
  calc exec .run s = keepRunning (.next (atHeader .run s)) := if_pos hm
    _ = keepRunning (finishFrame .run (decodeFrame [] (atHeader .run s))) := keepRunning_boundary rfl hm
    _ = keepRunning (finishFrame .run (decodeFrame [] s)) := by rw [atHeader, decodeFrame_at, finishFrame_at]

theorem exec_decode {s : State} (hm : mayDecode s = true) : exec .decode s = finishDecode (decodeFrame [] s) :=
  if_pos hm

/-- A frame instruction is what the dispatch of its header does. -/
theorem exec_decodeFrameHeader (b0 b1 : Byte) (s : State) :
    exec (decodeFrameHeader b0 b1) s = dispatchFrame (decodeFrameHeader b0 b1) s := by
  unfold decodeFrameHeader frameOf
  split <;> rfl

/-- `STEP` or `RUN` taken up again in a read, whichever it is. -/
theorem resumeRead_frame {l : Loop} {ph : RxPhase} {got : List Byte} {s : State} (he : s.engine = .frame l ph got)
    (hm : mayDecode s = true) : resumeRead s = keepRunning (finishFrame l (resumeDecode ph got s)) := by
  unfold resumeRead
  rw [he]
  cases ph with
  | hdr => exact congrArg keepRunning (iterate_eq l got hm)
  | ext | key plen | pay plen => rfl

theorem resumeRead_decode {ph : RxPhase} {got : List Byte} {s : State} (he : s.engine = .decode ph got) :
    resumeRead s = finishDecode (resumeDecode ph got s) := by
  unfold resumeRead
  rw [he]

end Sys2Proof.Machine
end

section
/-! Waiting in a read, and an RX that ends under a command. -/

namespace Sys2Proof.Machine

/-- `t` is `s` after RX ended short of the frame: every byte taken, the error logged, the stream released (60 R304,
R313). What the RX registers and `PBUF` hold is left open (42 R223). -/
def CutOff (s t : State) : Prop :=
  t = { s with
    rxb0 := t.rxb0, rxb1 := t.rxb1, rxplen := t.rxplen, rxmkey := t.rxmkey, pbuf := t.pbuf
    freeCount := t.freeCount, rx := [], rxPos := s.rxPos + s.rx.length
    status := .ioTruncated, engine := .idle, sess := .closed, owned := false, released := true
    events := s.events ++ [.log .ioTruncated, .release] }

theorem failSession_cutOff {s u : State} (h : ReadPart s.rx.length s u) (ho : s.owned = true) :
    CutOff s (failSession .ioTruncated (clobberRx u)) := by
  have hu : (clobberRx u).owned = true := by rw [h]; exact ho
  rw [failSession_owned _ hu, h]
  simp [CutOff, clobberRx]

/-- `DECODE` on an ended RX that runs dry. -/
theorem finishDecode_cutOff {s : State} {r : DecResult} (h : RunsDry s r) (he : s.rxEnd ≠ .opened)
    (ho : s.owned = true) : ∃ t, finishDecode r = .next t ∧ CutOff s t := by
  obtain ⟨u, hu, ⟨he', -⟩ | ⟨-, rfl⟩⟩ := h
  · exact absurd he' he
  · exact ⟨_, rfl, failSession_cutOff hu ho⟩

/-- `STEP`, `RUN` and a frame instruction likewise. -/
theorem finishFrame_cutOff (l : Loop) {s : State} {r : DecResult} (h : RunsDry s r) (he : s.rxEnd ≠ .opened)
    (ho : s.owned = true) : ∃ t, finishFrame l r = .next t ∧ keepRunning (.next t) = .next t ∧ CutOff s t := by
  obtain ⟨u, hu, ⟨he', -⟩ | ⟨-, rfl⟩⟩ := h
  · exact absurd he' he
  · exact ⟨_, rfl, keepRunning_failSession _ _, failSession_cutOff hu ho⟩

/-- `t` is `s` with a command waiting that has taken every byte there was. -/
def Starving (s t : State) : Prop :=
  busy t = true ∧
  t = { s with
    rxb0 := t.rxb0, rxb1 := t.rxb1, rxmkey := t.rxmkey, rx := [], rxPos := s.rxPos + s.rx.length, engine := t.engine }

theorem ReadPart.starving {s u : State} (h : ReadPart s.rx.length s u) {e : Engine} (he : e ≠ .idle) :
    Starving s { u with engine := e } := by
  refine ⟨by simpa [busy] using he, ?_⟩
  rw [h]
  simp

theorem finishDecode_starving {s : State} {r : DecResult} (h : RunsDry s r) (ho : s.rxEnd = .opened) :
    ∃ t, finishDecode r = .next t ∧ Starving s t := by
  obtain ⟨u, hu, ⟨-, ph, got, rfl⟩ | ⟨he, -⟩⟩ := h
  · exact ⟨_, rfl, hu.starving (by simp)⟩
  · exact absurd ho he

theorem finishFrame_starving (l : Loop) {s : State} {r : DecResult} (h : RunsDry s r) (ho : s.rxEnd = .opened) :
    ∃ t, keepRunning (finishFrame l r) = .next t ∧ Starving s t := by
  obtain ⟨u, hu, ⟨-, ph, got, rfl⟩ | ⟨he, -⟩⟩ := h
  · have hrx : u.rx = [] := by rw [hu.rx, List.drop_length]
    exact ⟨_, runLoop_starved (s := { u with engine := .frame l ph got }) hrx (hu.rxEnd.trans ho) _,
      hu.starving (by simp)⟩
  · exact absurd ho he

theorem exec_starving {i : Instr} {s : State} (hi : i ∈ [Instr.decode, .step, .run]) (hm : mayDecode s = true)
    (ho : s.rxEnd = .opened) (h : RunsDry s (decodeFrame [] s)) : ∃ t, exec i s = .next t ∧ Starving s t := by
  simp only [List.mem_cons, List.not_mem_nil, or_false] at hi
  rcases hi with rfl | rfl | rfl
  · rw [exec_decode hm]
    exact finishDecode_starving h ho
  · rw [exec_step hm]
    exact finishFrame_starving .step h ho
  · rw [exec_run hm]
    exact finishFrame_starving .run h ho

/-- RX has ended while a command waits in a read with nothing unread. -/
theorem resumeRead_cutOff {s : State} {ph : RxPhase} {got : List Byte}
    (he : s.engine = .decode ph got ∨ s.engine = .frame .step ph got ∨ s.engine = .frame .run ph got)
    (hi : engineInv s) (hp : positionInv s) (hr : s.rx = []) (hend : s.rxEnd ≠ .opened) (ho : s.owned = true) :
    ∃ t, resumeRead s = .next t ∧ CutOff s t := by
  unfold positionInv at hp
  unfold engineInv at hi
  have hdry : phaseInv s ph got → RunsDry s (resumeDecode ph got s) := fun h => resumeDecode_runsDry h hr
  have hloop : ∀ l, s.engine = .frame l ph got → ∃ t, resumeRead s = .next t ∧ CutOff s t := fun l he => by
    rw [he] at hp hi
    obtain ⟨t, ht, hk, hc⟩ := finishFrame_cutOff l (hdry hp) hend ho
    exact ⟨t, by rw [resumeRead_frame he ((mayDecode_iff s).mpr hi), ht, hk], hc⟩
  rcases he with he | he | he
  · rw [he] at hp
    rw [resumeRead_decode he]
    exact finishDecode_cutOff (hdry hp) hend ho
  · exact hloop .step he
  · exact hloop .run he

/-- Settles O29: bytes too few make `DecodeFrame` run dry (`RunsDry`) in whichever read it is. -/
theorem decodeWaitsForBytes : Obligations.DecodeWaitsForBytes := by
  refine ⟨fun i s hi hs hc ho h => ?_, fun s rest kind ph got hinv he hr ho hk hin => ?_,
    fun s b0 b1 hs hc hown hend h => ?_⟩
  · exact exec_starving hi ((mayDecode_iff s).mpr ⟨hs, hc⟩) ho (decodeFrame_runsDry h)
  · obtain ⟨-, ⟨hown, -⟩, heng, hpos⟩ := hinv
    have hs : s.sess = .opened := by
      unfold engineInv at heng
      rcases he with he | he | he <;> rw [he] at heng <;> exact heng.1
    obtain ⟨t, ht, hcut⟩ := resumeRead_cutOff (s := { s with inputs := rest, rxEnd := kind }) he heng hpos hr hk
      (hown.mpr hs)
    refine ⟨t, ?_, ?_⟩
    · rw [step_of_inputs hin, applyInput, peerEnd, if_pos ho, ht]
    · unfold CutOff at hcut
      rw [hcut]
      simp [hr]
  · have hm : mayDecode s = true := (mayDecode_iff s).mpr ⟨hs, hc⟩
    obtain ⟨t, ht, -, hcut⟩ := finishFrame_cutOff (loopOf s) (afterHeader_runsDry h) hend hown
    exact ⟨t, by rw [exec_decodeFrameHeader, dispatchFrame_header, if_pos hm, ht], hcut⟩

end Sys2Proof.Machine
end

section
/-! SUPPORT. A whole frame, decoded. -/

namespace Sys2Proof.Machine

/-! ### The key and the mask -/

@[simp] theorem be32_length (n : Word) : (be32 n).length = 4 := rfl

theorem fromBE_be32 (n : Word) : BitVec.ofNat 32 (fromBE (be32 n)) = n := by
  have h : fromBE (be32 n) = n.toNat := by
    simp only [fromBE, be32, fromBEAcc, BitVec.extractLsb'_toNat, Nat.shiftRight_eq_div_pow]
    have := n.isLt
    omega
  rw [h, BitVec.ofNat_toNat, BitVec.setWidth_eq]

theorem maskFrom_length (key : Word) (i : Nat) (p : List Byte) : (maskFrom key i p).length = p.length := by
  induction p generalizing i with
  | nil => rfl
  | cons b bs ih => simp [maskFrom, ih]

theorem maskFrom_maskFrom (key : Word) (i : Nat) (p : List Byte) : maskFrom key i (maskFrom key i p) = p := by
  induction p generalizing i with
  | nil => rfl
  | cons b bs ih => simp [maskFrom, ih]

@[simp] theorem maskXor_length (key : Word) (p : List Byte) : (maskXor key p).length = p.length :=
  maskFrom_length key 0 p

@[simp] theorem maskXor_maskXor (key : Word) (p : List Byte) : maskXor key (maskXor key p) = p :=
  maskFrom_maskFrom key 0 p

/-! ### The reads of a whole frame -/

/-- The `fin` test on a frame that is stored whole (42 R219, R220, R224). -/
def wholeResult (b0 : Byte) (payload : List Byte) (t : State) : DecResult :=
  if headerFin b0 then .frame (headerOpcode b0) payload t else .err .fragmentationUnsupported t

theorem finishPayload_eq (plen : Word) (raw : List Byte) (s : State) :
    finishPayload plen raw s = wholeResult s.rxb0 (unmask raw s) (storePayload plen (unmask raw s) s) := rfl

theorem readPayload_whole {plen : Word} {raw rest : List Byte} {s : State} (h : s.rx = raw ++ rest)
    (hl : raw.length = plen.toNat) :
    readPayload plen [] s =
      wholeResult s.rxb0 (unmask raw s)
        (storePayload plen (unmask raw s) { s with rx := rest, rxPos := s.rxPos + raw.length }) := by
  rw [readPayload, rxRead_append h hl, ← hl]
  exact finishPayload_eq _ _ _

theorem afterLength_whole {plen key : Word} {payload rest : List Byte} {s : State}
    (h : s.rx = frameTail (headerMasked s.rxb1) key [] payload ++ rest) (hl : plen.toNat = payload.length)
    (hc : payload.length ≤ s.cfg.pbufCap) :
    afterLength plen s =
      wholeResult s.rxb0 payload (decodedFrame s.rxb0 s.rxb1 key payload rest
        (frameTail (headerMasked s.rxb1) key [] payload).length s) := by
  have hp : plen = BitVec.ofNat 32 payload.length := by rw [← hl, BitVec.ofNat_toNat, BitVec.setWidth_eq]
  rw [afterLength, if_neg (by omega)]
  cases hm : headerMasked s.rxb1 with
  | false =>
    simp only [hm, frameTail, Bool.false_eq_true, if_false, List.nil_append] at h ⊢
    rw [readPayload_whole h hl.symm]
    simp [unmask, hm, storePayload, decodedFrame, hp]
  | true =>
    simp only [hm, frameTail, if_true, List.nil_append, List.append_assoc] at h ⊢
    rw [readKey, rxRead_append (n := 4) h rfl]
    simp only []
    rw [readPayload_whole (raw := maskXor key payload) (rest := rest) rfl (by simp [hl])]
    simp [unmask, hm, storePayload, decodedFrame, setKey, fromBE_be32, hp, Nat.add_assoc]

/-- `DecodeFrame` on a whole frame of an opcode other than close, in any length form, masked or not (42 R217
to R220). -/
theorem decodeFrame_whole {b0 b1 : Byte} {key : Word} {ext payload rest : List Byte} {s : State}
    (hop : headerOpcode b0 ≠ 0x8) (hf : frameFits (headerLen7 b1) ext payload s.cfg)
    (h : s.rx = b0 :: b1 :: (frameTail (headerMasked b1) key ext payload ++ rest)) :
    decodeFrame [] s =
      wholeResult b0 payload (decodedFrame b0 b1 key payload rest
        (2 + (frameTail (headerMasked b1) key ext payload).length) s) := by
  obtain ⟨hx, hl, hc⟩ := hf
  have ht : frameTail (headerMasked b1) key ext payload = ext ++ frameTail (headerMasked b1) key [] payload := rfl
  rw [ht, List.append_assoc] at h
  rw [decodeFrame_header h, afterHeader, if_neg hop, readExt]
  simp only [setHeader]
  rw [rxRead_append rfl hx, ht, List.length_append, hx]
  refine Eq.trans (afterLength_whole (key := key) (payload := payload) (rest := rest) rfl hl hc) ?_
  simp [decodedFrame, Nat.add_assoc]

/-- `DecodeFrame` on a close header stops there (42 R214, R225). -/
theorem decodeFrame_close {b0 b1 : Byte} {rest : List Byte} {s : State} (hop : headerOpcode b0 = 0x8)
    (h : s.rx = b0 :: b1 :: rest) :
    decodeFrame [] s =
      .close { s with rxb0 := b0, rxb1 := b1, rxplen := 0, rx := rest, rxPos := s.rxPos + 2 } := by
  rw [decodeFrame_header h, afterHeader, if_pos hop]
  rfl

end Sys2Proof.Machine
end

section
/-! SUPPORT. `DecodeFrame` sees and writes the receive side only. -/

namespace Sys2Proof.Machine

/-- The receive side of `s`, and the parameters, on what else there is in `a`. -/
def graftRx (a s : State) : State :=
  { a with
    cfg := s.cfg, rx := s.rx, rxEnd := s.rxEnd, rxPos := s.rxPos, rxb0 := s.rxb0, rxb1 := s.rxb1
    rxplen := s.rxplen, rxmkey := s.rxmkey, pbuf := s.pbuf, freeCount := s.freeCount }

/-- A decode result whose state is another function of it. -/
def DecResult.map (f : State → State) : DecResult → DecResult
  | .frame o p s => .frame o p (f s)
  | .close s => .close (f s)
  | .err e s => .err e (f s)
  | .waiting ph got s => .waiting ph got (f s)
  | .overCap => .overCap

/-- A read result whose state is another function of it. -/
def RxResult.map (f : State → State) : RxResult → RxResult
  | .got bs s => .got bs (f s)
  | .truncated s => .truncated (f s)
  | .waiting bs s => .waiting bs (f s)

@[simp] theorem graftRx_rx (a s : State) : (graftRx a s).rx = s.rx := rfl
@[simp] theorem graftRx_rxEnd (a s : State) : (graftRx a s).rxEnd = s.rxEnd := rfl
@[simp] theorem graftRx_rxb0 (a s : State) : (graftRx a s).rxb0 = s.rxb0 := rfl
@[simp] theorem graftRx_rxb1 (a s : State) : (graftRx a s).rxb1 = s.rxb1 := rfl
@[simp] theorem graftRx_cfg (a s : State) : (graftRx a s).cfg = s.cfg := rfl

theorem rxRead_graftRx (a : State) (n : Nat) (sofar : List Byte) (s : State) :
    rxRead n sofar (graftRx a s) = (rxRead n sofar s).map (graftRx a) := by
  unfold rxRead
  rw [graftRx_rx, graftRx_rxEnd]
  split_ifs <;> rfl

theorem readPayload_graftRx (a : State) (plen : Word) (got : List Byte) (s : State) :
    readPayload plen got (graftRx a s) = (readPayload plen got s).map (graftRx a) := by
  unfold readPayload
  rw [rxRead_graftRx]
  cases rxRead plen.toNat got s with
  | got raw t =>
    show finishPayload plen raw (graftRx a t) = (finishPayload plen raw t).map (graftRx a)
    unfold finishPayload
    rw [graftRx_rxb0]
    split <;> rfl
  | truncated t => rfl
  | waiting g t => rfl

theorem readKey_graftRx (a : State) (plen : Word) (got : List Byte) (s : State) :
    readKey plen got (graftRx a s) = (readKey plen got s).map (graftRx a) := by
  unfold readKey
  rw [rxRead_graftRx]
  cases rxRead 4 got s with
  | got k t => exact readPayload_graftRx a plen [] (setKey k t)
  | truncated t => rfl
  | waiting g t => rfl

theorem afterLength_graftRx (a : State) (plen : Word) (s : State) :
    afterLength plen (graftRx a s) = (afterLength plen s).map (graftRx a) := by
  unfold afterLength
  rw [graftRx_cfg, graftRx_rxb1]
  split_ifs
  · rfl
  · exact readKey_graftRx a plen [] s
  · exact readPayload_graftRx a plen [] s

theorem readExt_graftRx (a : State) (got : List Byte) (s : State) :
    readExt got (graftRx a s) = (readExt got s).map (graftRx a) := by
  unfold readExt
  rw [rxRead_graftRx, graftRx_rxb1]
  cases rxRead (extLen (headerLen7 s.rxb1)) got s with
  | got ext t => exact afterLength_graftRx a _ t
  | truncated t => rfl
  | waiting g t => rfl

theorem afterHeader_graftRx (a : State) (b0 b1 : Byte) (s : State) :
    afterHeader b0 b1 (graftRx a s) = (afterHeader b0 b1 s).map (graftRx a) := by
  unfold afterHeader
  split
  · rfl
  · exact readExt_graftRx a [] (setHeader b0 b1 s)

theorem decodeFrame_graftRx (a : State) (got : List Byte) (s : State) :
    decodeFrame got (graftRx a s) = (decodeFrame got s).map (graftRx a) := by
  unfold decodeFrame
  rw [rxRead_graftRx]
  cases rxRead 2 got s with
  | got hd t => exact afterHeader_graftRx a _ _ t
  | truncated t => rfl
  | waiting g t => rfl

end Sys2Proof.Machine
end

section
/-! SUPPORT. A command that writes, up to its first write and from there: what a stalled write leaves, and what the
transport's report makes of it. -/

namespace Sys2Proof.Machine

/-! ### One write -/

theorem txWrite_ok {bs : List Byte} {ds : List TxDraw} {s : State} (h : s.txDraws = .ok :: ds) :
    txWrite bs s = .ok (txAppend bs { s with txDraws := ds }) := by
  simp [txWrite, nextDraw, dropDraw, h]

theorem txWrite_fail {bs : List Byte} {k : Nat} {ds : List TxDraw} {s : State} (h : s.txDraws = .fail k :: ds) :
    txWrite bs s = .failed (txAppend (bs.take k) { s with txDraws := ds }) := by
  simp [txWrite, nextDraw, dropDraw, h]

theorem txWrite_stall {bs : List Byte} {k : Nat} {ds : List TxDraw} {s : State} (h : s.txDraws = .stall k :: ds) :
    txWrite bs s = .waiting (bs.drop k) (txAppend (bs.take k) { s with txDraws := ds }) := by
  simp [txWrite, nextDraw, dropDraw, h]

theorem txAppend_txAppend (as bs : List Byte) (s : State) :
    txAppend bs (txAppend as s) = txAppend (as ++ bs) s := by
  simp [txAppend, List.append_assoc]

/-- The rest of a stalled write goes as the report says exactly when the whole of it goes as `drawAfter` says. -/
theorem txWrite_drawAfter (bs : List Byte) (k : Nat) (d : TxDraw) (ds : List TxDraw) (s : State) :
    txWrite (bs.drop k) { txAppend (bs.take k) { s with txDraws := ds } with txDraws := d :: ds } =
      txWrite bs { s with txDraws := drawAfter k d :: ds } := by
  have happ : ∀ cs, txAppend cs { txAppend (bs.take k) { s with txDraws := ds } with txDraws := ds } =
      txAppend (bs.take k ++ cs) { s with txDraws := ds } := fun cs => txAppend_txAppend _ cs { s with txDraws := ds }
  cases d with
  | ok =>
    rw [drawAfter, txWrite_ok rfl, txWrite_ok rfl]
    exact congrArg TxResult.ok ((happ _).trans (by rw [List.take_append_drop]))
  | fail j =>
    rw [drawAfter, txWrite_fail rfl, txWrite_fail rfl]
    exact congrArg TxResult.failed ((happ _).trans (by rw [List.take_add]))
  | stall j =>
    rw [drawAfter, txWrite_stall rfl, txWrite_stall rfl, List.drop_drop]
    exact congrArg (TxResult.waiting _) ((happ _).trans (by rw [List.take_add]))

/-! ### The writes of `EncodeFrame` -/

/-- Where `EncodeFrame` begins: none of the header and the payload written (43 R240). -/
def frameJob (opcode : BitVec 4) (payload : List Byte) : TxJob :=
  .header (encodeHeader opcode (BitVec.ofNat 32 payload.length)) payload

theorem encodeFrame_eq (opcode : BitVec 4) (payload : List Byte) (s : State) :
    encodeFrame opcode payload s = resumeEncode (frameJob opcode payload) s := rfl

/-- A write of `EncodeFrame` that stalls waits, and the report on it is a draw of the whole write. -/
theorem resumeEncode_stall (job : TxJob) (k : Nat) (ds : List TxDraw) (s : State) :
    ∃ job' t, resumeEncode job { s with txDraws := .stall k :: ds } = .waiting job' t ∧ t.txDraws = ds ∧
      ∀ d, resumeEncode job' { t with txDraws := d :: ds } =
        resumeEncode job { s with txDraws := drawAfter k d :: ds } := by
  cases job with
  | header rest payload =>
    refine ⟨.header (rest.drop k) payload, txAppend (rest.take k) { s with txDraws := ds }, ?_, rfl, fun d => ?_⟩
    · rw [resumeEncode, writeHeader, txWrite_stall rfl]
    · simp only [resumeEncode, writeHeader, txWrite_drawAfter]
  | payload rest =>
    refine ⟨.payload (rest.drop k), txAppend (rest.take k) { s with txDraws := ds }, ?_, rfl, fun d => ?_⟩
    · rw [resumeEncode, writePayload, txWrite_stall rfl]
    · simp only [resumeEncode, writePayload, txWrite_drawAfter]

theorem resumeEncode_fail (job : TxJob) (k : Nat) (ds : List TxDraw) (s : State) :
    ∃ t, resumeEncode job { s with txDraws := .fail k :: ds } = .ioError t := by
  cases job with
  | header rest payload => exact ⟨_, by rw [resumeEncode, writeHeader, txWrite_fail rfl]⟩
  | payload rest => exact ⟨_, by rw [resumeEncode, writePayload, txWrite_fail rfl]⟩

/-- The payload write follows a header write that completes. -/
theorem resumeEncode_header_ok (rest payload : List Byte) (ds : List TxDraw) (s : State) :
    resumeEncode (.header rest payload) { s with txDraws := .ok :: ds } =
      resumeEncode (.payload payload) { txAppend rest s with txDraws := ds } := by
  rw [resumeEncode, writeHeader, txWrite_ok rfl]
  rfl

theorem resumeEncode_payload_ok (rest : List Byte) (ds : List TxDraw) (s : State) :
    resumeEncode (.payload rest) { s with txDraws := .ok :: ds } = .ok { txAppend rest s with txDraws := ds } := by
  rw [resumeEncode, writePayload, txWrite_ok rfl]
  rfl

theorem resumeEncode_at (e : Engine) (job : TxJob) (s : State) :
    resumeEncode job { s with engine := e } = encAt e (resumeEncode job s) := by
  cases job with
  | header rest payload =>
    simp only [resumeEncode, writeHeader]
    rw [txWrite_at]
    cases txWrite rest s with
    | ok t => exact writePayload_at e payload t
    | failed t => rfl
    | waiting r t => rfl
  | payload rest => exact writePayload_at e rest s

/-! ### The three kinds of write -/

/-- Whose write it is: `ENCODE` and `ENCCLOSE`, the echo of `STEP` or `RUN`, or their close reply. -/
inductive Writer where
  | encode
  | echo (l : Loop)
  | reply

/-- Where the command waits in such a write. -/
def Writer.engine : Writer → TxJob → Engine
  | .encode, job => .encode job
  | .echo l, job => .echo l job
  | .reply, job => .reply job

/-- What the command does with the result of its writes. -/
def Writer.finish : Writer → EncResult → Result
  | .encode, r => finishEncode r
  | .echo l, r => keepRunning (finishEcho l r)
  | .reply, r => finishReply r

theorem inWrite_iff (s : State) : inWrite s = true ↔ ∃ w job, s.engine = Writer.engine w job := by
  constructor
  · intro h
    unfold inWrite at h
    split at h
    case h_1 job he => exact ⟨.encode, job, he⟩
    case h_2 l job he => exact ⟨.echo l, job, he⟩
    case h_3 job he => exact ⟨.reply, job, he⟩
    all_goals cases h
  · rintro ⟨w, job, he⟩
    cases w <;> simp [inWrite, he, Writer.engine]

theorem busy_of_inWrite {s : State} (h : inWrite s = true) : busy s = true := by
  obtain ⟨w, job, he⟩ := (inWrite_iff s).mp h
  cases w <;> simp [busy, he, Writer.engine]

theorem inWrite_of_idle {s : State} (h : s.engine = .idle) : inWrite s = false := by
  simp [inWrite, h]

theorem Writer.finish_waiting (w : Writer) (job : TxJob) (s : State) :
    w.finish (.waiting job s) = .next { s with engine := w.engine job } := by
  cases w with
  | encode | reply => rfl
  | echo l => exact keepRunning_of_not_boundary (by simp)

theorem Writer.finish_ioError (w : Writer) (s : State) : w.finish (.ioError s) = .next (failSession .ioError s) := by
  cases w with
  | encode | reply => rfl
  | echo l => exact keepRunning_failSession _ s

theorem Writer.finish_encAt (w : Writer) (e : Engine) (r : EncResult) : w.finish (encAt e r) = w.finish r := by
  cases r with
  | ok s => cases w <;> rfl
  | ioError s => simp only [encAt, finish_ioError, failSession_at]
  | waiting job s => simp only [encAt, finish_waiting]

theorem resumeWrite_writer {w : Writer} {job : TxJob} {s : State} (he : s.engine = w.engine job) :
    resumeWrite s = w.finish (resumeEncode job s) := by
  cases w <;> simp only [resumeWrite, he, Writer.engine, Writer.finish]

/-- A write that stalls: the command waits in it, and goes on from the report as if the write had been drawn so. -/
theorem Writer.stalls (w : Writer) (job : TxJob) (k : Nat) (ds : List TxDraw) (s : State) :
    ∃ t, w.finish (resumeEncode job { s with txDraws := .stall k :: ds }) = .next t ∧ inWrite t = true ∧
      t.txDraws = ds ∧
      ∀ d, transport d t = w.finish (resumeEncode job { s with txDraws := drawAfter k d :: ds }) := by
  obtain ⟨job', t, ht, hds, hd⟩ := resumeEncode_stall job k ds s
  have hin : inWrite { t with engine := w.engine job' } = true := (inWrite_iff _).mpr ⟨w, job', rfl⟩
  refine ⟨{ t with engine := w.engine job' }, by rw [ht, w.finish_waiting], hin, hds, fun d => ?_⟩
  have hat := resumeEncode_at (w.engine job') job' { t with txDraws := d :: ds }
  rw [transport, if_pos hin]
  simp only [hds]
  rw [resumeWrite_writer rfl, hat, w.finish_encAt, hd]

/-- The header or the payload of a frame stalls. -/
theorem Writer.frame_stalls (w : Writer) (opcode : BitVec 4) (payload : List Byte) {k : Nat} {ds : List TxDraw}
    {s : State} (h : s.txDraws = .stall k :: ds ∨ s.txDraws = .ok :: .stall k :: ds) :
    ∃ t, w.finish (encodeFrame opcode payload s) = .next t ∧ inWrite t = true ∧ busy t = true ∧ t.txDraws = ds := by
  rw [encodeFrame_eq]
  rcases h with h | h
  · obtain ⟨t, ht, hin, hds, -⟩ := w.stalls (frameJob opcode payload) k ds s
    rw [← h] at ht
    exact ⟨t, ht, hin, busy_of_inWrite hin, hds⟩
  · obtain ⟨t, ht, hin, hds, -⟩ := w.stalls (.payload payload) k ds
      (txAppend (encodeHeader opcode (BitVec.ofNat 32 payload.length)) s)
    rw [← resumeEncode_header_ok, ← h] at ht
    exact ⟨t, ht, hin, busy_of_inWrite hin, hds⟩

/-! ### An answer as a function of the stated draws -/

/-- `f` gives a command's answer for each list of stated draws. Either the draws do not matter before a write that
takes the first of them, or the command ends in no write that has taken one. -/
inductive UpToWrite (f : List TxDraw → Result) : Prop
  | writes (w : Writer) (job : TxJob) (s : State) (hl : w = .echo .run → mayDecode s = true)
      (h : ∀ ds, f ds = w.finish (resumeEncode job { s with txDraws := ds }))
  | silent (h : ∀ ds t, f ds = .next t → inWrite t = true → t.txDraws = ds)

theorem UpToWrite.congr {f g : List TxDraw → Result} (hg : UpToWrite g) (h : ∀ ds, f ds = g ds) : UpToWrite f :=
  funext h ▸ hg

theorem UpToWrite.of_idle {f : List TxDraw → Result} (h : ∀ ds t, f ds = .next t → t.engine = .idle) :
    UpToWrite f :=
  .silent fun ds t ht hw => by simp [inWrite_of_idle (h ds t ht)] at hw

/-- After `DecodeFrame`, the loop goes on without a draw up to a reply. -/
theorem finishFrame_upToWrite (l : Loop) {n : Nat} {s : State} (hm : mayDecode s = true) {r : DecResult}
    (hr : r.Advances n) :
    UpToWrite fun ds => keepRunning (finishFrame l (r.map (graftRx { s with txDraws := ds }))) := by
  cases r with
  | frame o p u =>
    exact .writes (.echo l) (frameJob o p) (graftRx s u) (fun _ => hm) fun _ => rfl
  | close u =>
    exact .writes .reply (frameJob 0x8 (be16 u.cfg.closeReplyCode ++ closeReplyReason))
      { graftRx s u with closeRcvd := true } (fun h => by cases h) fun _ => keepRunning_finishReply _
  | err e u =>
    refine .of_idle fun ds t ht => ?_
    cases (keepRunning_failSession e _).symm.trans ht
    simp
  | waiting ph got u =>
    refine .silent fun ds t ht hw => ?_
    have hk := runLoop_starved (s := { graftRx { s with txDraws := ds } u with engine := .frame l ph got }) hr.1 hr.2
      (u.rx.length + 1)
    cases hk.symm.trans ht
    cases hw
  | overCap => exact .silent fun ds t ht => by cases ht

theorem decodeFrame_upToWrite (l : Loop) {s : State} (hm : mayDecode s = true) :
    UpToWrite fun ds => keepRunning (finishFrame l (decodeFrame [] { s with txDraws := ds })) :=
  (finishFrame_upToWrite l hm (decodeFrame_advances s)).congr fun ds => by
    rw [← decodeFrame_graftRx]
    rfl

theorem afterHeader_upToWrite (b0 b1 : Byte) {s : State} (hm : mayDecode s = true) :
    UpToWrite fun ds => finishFrame .step (afterHeader b0 b1 { s with txDraws := ds }) :=
  (finishFrame_upToWrite .step hm (afterHeader_advances (Nat.lt_succ_self s.rx.length))).congr fun ds => by
    rw [← afterHeader_graftRx, keepRunning_finishFrame_step]
    rfl

/-- After a write that completes, a command again goes on without a draw up to a write. -/
theorem Writer.ok_upToWrite (w : Writer) (job : TxJob) (s : State) (hl : w = .echo .run → mayDecode s = true) :
    UpToWrite fun ds => w.finish (resumeEncode job { s with txDraws := .ok :: ds }) := by
  cases job with
  | header rest payload =>
    exact .writes w (.payload payload) (txAppend rest s) hl fun ds => by rw [resumeEncode_header_ok]
  | payload rest =>
    simp only [resumeEncode_payload_ok]
    cases w with
    | encode =>
      refine .of_idle fun ds t ht => ?_
      cases ht
      rfl
    | reply =>
      refine .of_idle fun ds t ht => ?_
      cases ht
      simp
    | echo l =>
      cases l with
      | step =>
        refine .of_idle fun ds t ht => ?_
        rw [Writer.finish, keepRunning_finishEcho_step] at ht
        cases ht
        rfl
      | run =>
        exact (decodeFrame_upToWrite .run
          (s := { txAppend rest s with status := .ok, engine := .frame .run .hdr [] }) (hl rfl)).congr
          fun ds => keepRunning_boundary rfl (hl rfl)

end Sys2Proof.Machine
end

section
/-! A stalled write and the transport's report on it. -/

namespace Sys2Proof.Machine

/-! ### Every instruction up to its first write -/

theorem UpToWrite.ite {c : Prop} [Decidable c] {f g : List TxDraw → Result} (hf : c → UpToWrite f)
    (hg : ¬c → UpToWrite g) : UpToWrite fun ds => if c then f ds else g ds := by
  by_cases hc : c
  · simpa only [if_pos hc] using hf hc
  · simpa only [if_neg hc] using hg hc

theorem UpToWrite.refused (e : Refusal) : UpToWrite fun _ => .refused e := .silent fun _ _ h => by cases h

/-- A command that only writes state, and no draws. -/
theorem UpToWrite.of_keeps_draws {f : List TxDraw → State} (h : ∀ ds, (f ds).txDraws = ds) :
    UpToWrite fun ds => .next (f ds) :=
  .silent fun ds t ht _ => by
    cases ht
    exact h ds

/-- The two writes of a frame, begun (43 R240). -/
theorem encodeFrame_upToWrite (o : BitVec 4) (p : List Byte) (s : State) :
    UpToWrite fun ds => finishEncode (encodeFrame o p { s with txDraws := ds }) :=
  .writes .encode (frameJob o p) s (fun h => by cases h) fun _ => rfl

theorem execHsderive_upToWrite (s : State) : UpToWrite fun ds => execHsderive { s with txDraws := ds } :=
  .ite (c := s.sess = .hs)
    (fun _ => .ite (c := headersOverCap s = true) (fun _ => .refused _)
      fun _ => .ite (c := isUpgrade s = false) (fun _ => .of_keeps_draws fun _ => rfl)
        fun _ => .ite (c := s.hkeyLen.toNat = 0) (fun _ => .of_keeps_draws fun _ => rfl)
          fun _ => .of_keeps_draws fun _ => rfl)
    fun _ => .of_keeps_draws fun _ => rfl

theorem execTakeok_upToWrite (s : State) : UpToWrite fun ds => execTakeok { s with txDraws := ds } :=
  .ite (c := s.sess = .upg) (fun _ => .of_keeps_draws fun _ => rfl) fun _ => .of_keeps_draws fun _ => rfl

theorem execTakefail_upToWrite (s : State) : UpToWrite fun ds => execTakefail { s with txDraws := ds } :=
  .ite (c := s.sess = .upg) (fun _ => .of_keeps_draws fun _ => rfl) fun _ => .of_keeps_draws fun _ => rfl

@[simp] theorem closeSession_txDraws (s : State) : (closeSession s).txDraws = s.txDraws := by
  unfold closeSession
  split <;> rfl

theorem execRelease_upToWrite (s : State) : UpToWrite fun ds => execRelease { s with txDraws := ds } :=
  .ite (c := mayEncode s = true)
    (fun _ => .of_keeps_draws fun _ => closeSession_txDraws _)
    fun _ => .of_keeps_draws fun _ => rfl

/-- `DECODE` ends in no write. -/
theorem execDecode_upToWrite (s : State) : UpToWrite fun ds => execDecode { s with txDraws := ds } := by
  refine .ite (c := mayDecode s = true) (fun _ => .silent fun ds t ht hw => ?_) fun _ => .of_keeps_draws fun _ => rfl
  generalize decodeFrame [] { s with txDraws := ds } = r at ht
  cases r with
  | err e u =>
    cases ht
    simp [inWrite_of_idle] at hw
  | frame | close | waiting | overCap => cases ht <;> cases hw

theorem execEncode_upToWrite (s : State) : UpToWrite fun ds => execEncode { s with txDraws := ds } :=
  .ite (c := mayEncode s = true)
    (fun _ => .ite (c := txlenOverCap s = true) (fun _ => .refused _)
      fun _ => encodeFrame_upToWrite s.txopc (txPayload s) s)
    fun _ => .of_keeps_draws fun _ => rfl

theorem execEncclose_upToWrite (s : State) : UpToWrite fun ds => execEncclose { s with txDraws := ds } :=
  .ite (c := mayEncode s = true)
    (fun _ => .ite (c := txlenOverCap s = true) (fun _ => .refused _)
      fun _ => .ite (c := 4294967293 < s.txlen.toNat) (fun _ => .of_keeps_draws fun _ => rfl)
        fun _ => encodeFrame_upToWrite 0x8 (be16 s.ccode ++ txPayload s) s)
    fun _ => .of_keeps_draws fun _ => rfl

theorem execStep_upToWrite (s : State) : UpToWrite fun ds => execStep { s with txDraws := ds } :=
  .ite (c := mayDecode s = true)
    (fun hm => (decodeFrame_upToWrite .step hm).congr fun ds =>
      (iterate_eq .step [] (s := { s with txDraws := ds }) hm).trans (keepRunning_finishFrame_step _).symm)
    fun _ => .of_keeps_draws fun _ => rfl

theorem execRun_upToWrite (s : State) : UpToWrite fun ds => execRun { s with txDraws := ds } :=
  .ite (c := mayDecode s = true)
    (fun hm => (decodeFrame_upToWrite .run (s := atHeader .run s) hm).congr fun _ => keepRunning_boundary rfl hm)
    fun _ => .of_keeps_draws fun _ => rfl

theorem loopOf_idle {s : State} (h : s.engine = .idle) : loopOf s = .step := by simp only [loopOf, h]

theorem runFrame_upToWrite (o : BitVec 4) (f : Bool) (r : BitVec 3) (m : Bool) (l : BitVec 7) {s : State}
    (h : s.engine = .idle) : UpToWrite fun ds => runFrame o f r m l { s with txDraws := ds } :=
  .ite (c := mayDecode s = true)
    (fun hm => (afterHeader_upToWrite (headerByte0 f r o) (headerByte1 m l) hm).congr fun ds => by
      rw [loopOf_idle (s := { s with txDraws := ds }) h])
    fun _ => .of_keeps_draws fun _ => rfl

/-- The header fields of a frame instruction, for every state. -/
theorem exec_frame_fields {i : Instr} (hi : i.space = .frame) :
    ∃ o f r m l, ∀ s, exec i s = runFrame o f r m l s := by
  cases i <;> cases hi <;> exact ⟨_, _, _, _, _, fun _ => rfl⟩

/-- Every instruction goes on without a draw up to a write, or ends in no write. -/
theorem exec_upToWrite (i : Instr) {s : State} (hb : i.space = .frame → busy s = false) :
    UpToWrite fun ds => exec i { s with txDraws := ds } := by
  cases hi : i.space with
  | frame =>
    obtain ⟨o, f, r, m, l, he⟩ := exec_frame_fields hi
    have hidle : s.engine = .idle := by simpa [busy] using hb hi
    exact (runFrame_upToWrite o f r m l hidle).congr fun ds => he _
  | command =>
    cases i with
    | nop | reservedLowA w | reservedLowC w | reservedBit4 w | reservedBit5 w | reservedBit6 w | reservedBit7 w =>
      exact .of_keeps_draws fun _ => rfl
    | hsderive => exact execHsderive_upToWrite s
    | takeok => exact execTakeok_upToWrite s
    | takefail => exact execTakefail_upToWrite s
    | decode => exact execDecode_upToWrite s
    | encode => exact execEncode_upToWrite s
    | encclose => exact execEncclose_upToWrite s
    | step => exact execStep_upToWrite s
    | run => exact execRun_upToWrite s
    | release => exact execRelease_upToWrite s
    | _ => cases hi

/-! ### The report on a write that stalled -/

/-- A command that waits in the write of a stated draw goes on, when the transport reports, as if that write had been
drawn so: by induction on the draws of the writes before it. -/
theorem UpToWrite.report {f : List TxDraw → Result} (hf : UpToWrite f) {pre : List TxDraw} {k : Nat} {t : State}
    (h : f (pre ++ .stall k :: t.txDraws) = .next t) (hw : inWrite t = true) (d : TxDraw) :
    transport d t = f (pre ++ drawAfter k d :: t.txDraws) := by
  induction pre generalizing f with
  | nil =>
    cases hf with
    | writes w job s hl hs =>
      obtain ⟨u, hu, -, -, hd⟩ := w.stalls job k t.txDraws s
      rw [List.nil_append, hs, hu] at h
      cases h
      rw [hd, List.nil_append, hs]
    | silent hs => exact absurd (hs _ t h hw) (List.ne_cons_self)
  | cons p pre ih =>
    cases hf with
    | writes w job s hl hs =>
      cases p with
      | ok => exact ih ((w.ok_upToWrite job s hl).congr fun ds => hs (.ok :: ds)) h
      | fail j =>
        obtain ⟨u, hu⟩ := resumeEncode_fail job j (pre ++ .stall k :: t.txDraws) s
        rw [List.cons_append, hs, hu, w.finish_ioError] at h
        cases h
        simp [inWrite_of_idle] at hw
      | stall j =>
        obtain ⟨u, hu, -, hds, -⟩ := w.stalls job j (pre ++ .stall k :: t.txDraws) s
        rw [List.cons_append, hs, hu] at h
        cases h
        exact absurd (congrArg List.length hds) (by simp; omega)
    | silent hs => exact absurd (congrArg List.length (hs _ t h hw)) (by simp; omega)

/-! ### Writes that stall -/

theorem exec_encode {s : State} (hm : mayEncode s = true) (hc : txlenOverCap s = false) :
    exec .encode s = finishEncode (encodeFrame s.txopc (txPayload s) s) := by
  rw [exec, execEncode, if_pos hm, hc]
  rfl

theorem exec_encclose {s : State} (hm : mayEncode s = true) (hc : txlenOverCap s = false)
    (hl : s.txlen.toNat ≤ 4294967293) :
    exec .encclose s = finishEncode (encodeFrame 0x8 (be16 s.ccode ++ txPayload s) s) := by
  rw [exec, execEncclose, if_pos hm, hc, if_neg (Nat.not_lt.mpr hl)]
  rfl

/-- The reply of a loop iteration: an echo after a whole frame, the close reply after a close header. -/
theorem finishFrame_stalls (l : Loop) {b0 b1 : Byte} {key : Word} {ext payload rest : List Byte} {k : Nat}
    {ds : List TxDraw} {s : State}
    (hrx : (headerOpcode b0 ≠ 0x8 ∧ headerFin b0 = true ∧ frameFits (headerLen7 b1) ext payload s.cfg ∧
        s.rx = b0 :: b1 :: (frameTail (headerMasked b1) key ext payload ++ rest)) ∨
      (headerOpcode b0 = 0x8 ∧ s.rx = b0 :: b1 :: rest))
    (hds : s.txDraws = .stall k :: ds ∨ s.txDraws = .ok :: .stall k :: ds) :
    ∃ t, keepRunning (finishFrame l (decodeFrame [] s)) = .next t ∧ inWrite t = true ∧ busy t = true ∧
      t.txDraws = ds := by
  rcases hrx with ⟨hop, hfin, hfit, hrx⟩ | ⟨hop, hrx⟩
  · rw [decodeFrame_whole hop hfit hrx, wholeResult, if_pos hfin]
    exact Writer.frame_stalls (.echo l) _ _ hds
  · rw [decodeFrame_close hop hrx, finishFrame, keepRunning_finishReply]
    exact Writer.frame_stalls .reply _ _ hds

/-- Settles O35: what a command answers depends on the draws only from its next write on (`UpToWrite`). -/
theorem stalledEncodeCompletes : Obligations.StalledEncodeCompletes := by
  refine ⟨fun i s k ds hi hs hc hl hds => ?_, fun i s b0 b1 key ext payload rest k ds hi hs hcl hrx hds => ?_,
    fun i s t pre ds k d hb hpre h hw hds => ?_, fun s d rest hin => ?_⟩
  · have hm : mayEncode s = true := by simp [mayEncode, hs]
    have hc : txlenOverCap s = false := by simpa [txlenOverCap] using hc
    simp only [List.mem_cons, List.not_mem_nil, or_false] at hi
    rcases hi with rfl | rfl
    · rw [exec_encode hm hc]
      exact Writer.frame_stalls .encode _ _ hds
    · rw [exec_encclose hm hc (hl rfl)]
      exact Writer.frame_stalls .encode _ _ hds
  · have hm : mayDecode s = true := (mayDecode_iff s).mpr ⟨hs, hcl⟩
    simp only [List.mem_cons, List.not_mem_nil, or_false] at hi
    rcases hi with rfl | rfl
    · rw [exec_step hm]
      exact finishFrame_stalls .step hrx hds
    · rw [exec_run hm]
      exact finishFrame_stalls .run hrx hds
  · subst hds
    have hf := exec_upToWrite i hb
    exact hf.report (pre := pre) (k := k) (by rw [← hpre]; exact h) hw d
  · rw [step_of_inputs hin]
    rfl

end Sys2Proof.Machine
end

section
/-! The decoder and the encoder of both spaces are inverse to each other, and what a reserved word does. -/

namespace Sys2Proof.Machine

/-! ### Command words -/

/-- The instructions that keep the word `w`, one for each reserved-command row (30 R118). -/
def reservedRows (w : Byte) : List Instr :=
  [.reservedLowA w, .reservedLowC w, .reservedBit4 w, .reservedBit5 w, .reservedBit6 w, .reservedBit7 w]

/-- The rows are disjoint, and the decoder gives a word to the row it lies in (log 16). -/
theorem decodeCommand_of_mem_reservedRows {w : Byte} {i : Instr} (hi : i ∈ reservedRows w)
    (hw : i.wellFormed = true) : decodeCommand w = i := by
  have h : ∀ w : Byte, ∀ i ∈ reservedRows w, i.wellFormed = true → decodeCommand w = i := by decide
  exact h w i hi hw

/-- What is left of the words from 0x0C on when no bit of `CMD[7:4]` is set (30 R118). -/
theorem inReservedLowC_of_highClear {w : Byte} (h4 : ¬inReservedBit4 w = true) (h5 : ¬inReservedBit5 w = true)
    (h6 : ¬inReservedBit6 w = true) (h7 : ¬inReservedBit7 w = true) (hw : 0x0C ≤ w.toNat) :
    inReservedLowC w = true := by
  revert w
  decide

theorem encode_decodeCommand (w : Byte) :
    encode (decodeCommand w) = [w] ∧ (decodeCommand w).wellFormed = true ∧ (decodeCommand w).space = .command := by
  unfold decodeCommand
  split_ifs with h4 h5 h6 h7
  · exact ⟨rfl, h4, rfl⟩
  · exact ⟨rfl, h5, rfl⟩
  · exact ⟨rfl, h6, rfl⟩
  · exact ⟨rfl, h7, rfl⟩
  · split
    case h_13 =>
      have hw : 0x0C ≤ w.toNat := by
        simp only [imp_false] at *
        omega
      exact ⟨rfl, inReservedLowC_of_highClear h4 h5 h6 h7 hw, rfl⟩
    all_goals
      rename_i hw
      obtain ⟨-, rfl⟩ := BitVec.toNat_eq_nat.mp hw
      exact ⟨rfl, rfl, rfl⟩

/-- A command is the one word that decodes to it. -/
theorem encode_of_command {i : Instr} (hi : i.space = .command) (hw : i.wellFormed = true) :
    ∃ w, encode i = [w] ∧ decodeCommand w = i := by
  cases i with
  | nop | hsderive | takeok | takefail | decode | encode | encclose | step | run | release => exact ⟨_, rfl, rfl⟩
  | reservedLowA w | reservedLowC w | reservedBit4 w | reservedBit5 w | reservedBit6 w | reservedBit7 w =>
    exact ⟨w, rfl, decodeCommand_of_mem_reservedRows (by simp [reservedRows]) hw⟩
  | _ => cases hi

/-! ### Frame headers -/

theorem decodeFrameHeader_headerBytes (o : BitVec 4) (f : Bool) (r : BitVec 3) (m : Bool) (l : BitVec 7) :
    decodeFrameHeader (headerByte0 f r o) (headerByte1 m l) = frameOf o f r m l := by
  rw [decodeFrameHeader, headerOpcode_byte0, headerFin_byte0, headerRsv_byte0, headerMasked_byte1, headerLen7_byte1]

theorem encode_frameOf (o : BitVec 4) (f : Bool) (r : BitVec 3) (m : Bool) (l : BitVec 7) :
    encode (frameOf o f r m l) = [headerByte0 f r o, headerByte1 m l] := by
  obtain ⟨k⟩ := o
  fin_cases k <;> rfl

theorem space_frameOf (o : BitVec 4) (f : Bool) (r : BitVec 3) (m : Bool) (l : BitVec 7) :
    (frameOf o f r m l).space = .frame := by
  unfold frameOf
  split <;> rfl

/-- Every value of every header field is an encoding (30 R108). -/
theorem wellFormed_of_frame {i : Instr} (hi : i.space = .frame) : i.wellFormed = true := by
  cases i <;> cases hi <;> rfl

/-- A frame instruction is the two header bytes that decode to it. -/
theorem encode_of_frame {i : Instr} (hi : i.space = .frame) :
    ∃ b0 b1, encode i = [b0, b1] ∧ decodeFrameHeader b0 b1 = i := by
  cases i <;> cases hi <;> exact ⟨_, _, rfl, decodeFrameHeader_headerBytes ..⟩

/-! ### Both directions -/

/-- Settles O3: in either space an instruction is encoded in the bytes that decode to it. -/
theorem decodeOfEncodeIsSame : Obligations.DecodeOfEncodeIsSame := by
  intro i rest hw
  cases hi : i.space with
  | command =>
    obtain ⟨w, he, hd⟩ := encode_of_command hi hw
    rw [he, ← hd]
    rfl
  | frame =>
    obtain ⟨b0, b1, he, hd⟩ := encode_of_frame hi
    rw [he, ← hd]
    rfl

/-- Settles O4: a word by the row the decoder finds it in, a header by its fields. -/
theorem encodeOfDecodeIsSame : Obligations.EncodeOfDecodeIsSame := by
  refine ⟨encode_decodeCommand, fun b0 b1 => ?_⟩
  have hs : (decodeFrameHeader b0 b1).space = .frame := space_frameOf ..
  refine ⟨?_, wellFormed_of_frame hs, hs⟩
  rw [decodeFrameHeader, encode_frameOf, headerByte0_fields, headerByte1_fields]

/-- Settles O5: each word is closed, and the decoder runs on it. -/
theorem specWordsDecode : Obligations.SpecWordsDecode := by
  unfold Obligations.SpecWordsDecode
  decide

/-! ### Reserved words -/

theorem decodeCommand_mem_reservedRows {w : Byte} (hw : 0x0A ≤ w.toNat) : decodeCommand w ∈ reservedRows w := by
  unfold decodeCommand
  split_ifs
  case neg =>
    split
    case h_11 | h_12 | h_13 => simp [reservedRows]
    all_goals omega
  all_goals simp [reservedRows]

theorem exec_of_mem_reservedRows {w : Byte} {i : Instr} (hi : i ∈ reservedRows w) (s : State) :
    exec i s = .next (illegalCommand s) := by
  simp only [reservedRows, List.mem_cons, List.not_mem_nil, or_false] at hi
  rcases hi with rfl | rfl | rfl | rfl | rfl | rfl <;> rfl

/-- Settles O13: a word from 0x0A on decodes to a reserved row, and the rows have one meaning. -/
theorem reservedWordsAreIllegal : Obligations.ReservedWordsAreIllegal :=
  ⟨fun _ s hw => exec_of_mem_reservedRows (decodeCommand_mem_reservedRows hw) s,
    fun _ _ => ⟨rfl, rfl, rfl, rfl, rfl, rfl⟩⟩

end Sys2Proof.Machine
end

section
/-! The length coder (40 R140 to R150) and the mask unit (40 R151 to R156). -/

namespace Sys2Proof.Machine

/-! ### Big-endian numbers -/

theorem fromBE_be16 (n : BitVec 16) : fromBE (be16 n) = n.toNat := by
  simp only [fromBE, be16, fromBEAcc, BitVec.extractLsb'_toNat, Nat.shiftRight_eq_div_pow]
  have := n.isLt
  omega

theorem fromBEAcc_lt (acc : Nat) (s : List Byte) : fromBEAcc acc s < (acc + 1) * 256 ^ s.length := by
  induction s generalizing acc with
  | nil => simp [fromBEAcc]
  | cons b bs ih =>
    have hb : acc * 256 + b.toNat + 1 ≤ (acc + 1) * 256 := by have := b.isLt; omega
    calc fromBEAcc (acc * 256 + b.toNat) bs
      _ < (acc * 256 + b.toNat + 1) * 256 ^ bs.length := ih _
      _ ≤ (acc + 1) * 256 * 256 ^ bs.length := Nat.mul_le_mul_right _ hb
      _ = (acc + 1) * 256 ^ (b :: bs).length := by rw [List.length_cons, Nat.pow_succ', Nat.mul_assoc]

theorem fromBE_lt (s : List Byte) : fromBE s < 256 ^ s.length := by
  simpa [fromBE] using fromBEAcc_lt 0 s

/-! ### The three forms of a length -/

/-- The encoder uses the short form below 126, the 16-bit form up to 65535 and the 64-bit form above (40 R145). -/
theorem lenEncode_cases (n : Word) :
    (n.toNat < 126 ∧ lenEncode n = [n.setWidth 8]) ∨
    (126 ≤ n.toNat ∧ n.toNat ≤ 0xFFFF ∧ lenEncode n = 126 :: be16 (n.setWidth 16)) ∨
    (0xFFFF < n.toNat ∧ lenEncode n = 127 :: 0 :: 0 :: 0 :: 0 :: be32 n) := by
  unfold lenEncode
  split_ifs with h h'
  · exact .inl ⟨h, rfl⟩
  · exact .inr (.inl ⟨by omega, h', rfl⟩)
  · exact .inr (.inr ⟨by omega, rfl⟩)

theorem lenDecode_short {len7 : BitVec 7} (h : len7.toNat ≤ 125) (ext : List Byte) :
    lenDecode len7 ext = len7.setWidth 32 := if_pos h

theorem toNat_headerLen7_short {n : Word} (h : n.toNat < 126) : (headerLen7 (n.setWidth 8)).toNat = n.toNat := by
  simp only [headerLen7, BitVec.extractLsb'_toNat, BitVec.toNat_setWidth, Nat.shiftRight_zero]
  omega

/-- Settles O20, form by form: the header byte calls for the extended length beside it, which holds `n`. -/
theorem lengthCodeRoundTrip : Obligations.LengthCodeRoundTrip := by
  intro n
  rcases lenEncode_cases n with ⟨h, hn⟩ | ⟨-, h, hn⟩ | ⟨-, hn⟩
  · have hl := toNat_headerLen7_short h
    have h125 : (headerLen7 (n.setWidth 8)).toNat ≤ 125 := by omega
    refine ⟨n.setWidth 8, [], hn, if_pos h125, ?_⟩
    rw [lenDecode_short h125]
    apply BitVec.eq_of_toNat_eq
    rw [BitVec.toNat_setWidth, hl, Nat.mod_eq_of_lt n.isLt]
  · refine ⟨126, be16 (n.setWidth 16), hn, rfl, ?_⟩
    apply BitVec.eq_of_toNat_eq
    calc (BitVec.ofNat 32 (fromBE (be16 (n.setWidth 16)))).toNat
      _ = n.toNat % 2 ^ 16 % 2 ^ 32 := by rw [BitVec.toNat_ofNat, fromBE_be16, BitVec.toNat_setWidth]
      _ = n.toNat := by omega
  · exact ⟨127, 0 :: 0 :: 0 :: 0 :: be32 n, hn, rfl, fromBE_be32 n⟩

/-! ### The shortest form -/

/-- Header byte 1 of the length code has `MASK = 0` (40 R145). -/
theorem lenEncode_unmasked (n : Word) : ∃ b ext, lenEncode n = b :: ext ∧ headerMasked b = false := by
  rcases lenEncode_cases n with ⟨h, hn⟩ | ⟨-, -, hn⟩ | ⟨-, hn⟩
  · refine ⟨_, _, hn, ?_⟩
    rw [headerMasked, BitVec.getLsbD_setWidth]
    simp [BitVec.getLsbD, Nat.testBit_lt_two_pow (show n.toNat < 2 ^ 7 by omega)]
  · exact ⟨_, _, hn, rfl⟩
  · exact ⟨_, _, hn, rfl⟩

/-- What a `LEN7` takes of extended length, and the lengths it can hold (40 R141, R147). -/
theorem lenDecode_bound {len7 : BitVec 7} {ext : List Byte} (he : ext.length = extLen len7) :
    (ext.length = 0 ∧ (lenDecode len7 ext).toNat < 126) ∨ (ext.length = 2 ∧ (lenDecode len7 ext).toNat ≤ 0xFFFF) ∨
      ext.length = 8 := by
  unfold extLen at he
  split_ifs at he with h125 h126
  · left
    rw [lenDecode_short h125, BitVec.toNat_setWidth]
    omega
  · right; left
    have hlt := fromBE_lt ext
    rw [he] at hlt
    rw [lenDecode, if_neg h125, if_pos h126, List.take_of_length_le he.le, BitVec.toNat_ofNat]
    omega
  · exact .inr (.inr he)

/-- Settles O21: a form with fewer bytes than the encoder's holds only smaller lengths. -/
theorem lengthCodeUnmaskedShortest : Obligations.LengthCodeUnmaskedShortest := by
  refine fun n => ⟨lenEncode_unmasked n, fun len7 ext he hd => ?_⟩
  have hb := lenDecode_bound he
  rw [hd] at hb
  rcases lenEncode_cases n with ⟨-, hn⟩ | ⟨h, -, hn⟩ | ⟨h, hn⟩
  · rw [hn, List.length_singleton]
    omega
  · have hl : (lenEncode n).length = 3 := by rw [hn]; rfl
    omega
  · have hl : (lenEncode n).length = 9 := by rw [hn]; rfl
    omega

/-! ### The mask unit -/

theorem maskFrom_getElem? (key : Word) (i j : Nat) (p : List Byte) :
    (maskFrom key i p)[j]? = p[j]?.map fun b => b ^^^ keyByte key (i + j) := by
  induction p generalizing i j with
  | nil => rfl
  | cons b bs ih =>
    cases j with
    | zero => rfl
    | succ j => simp only [maskFrom, List.getElem?_cons_succ, ih, Nat.add_assoc, Nat.add_comm 1 j]

/-- Key byte `i mod 4` is read out of the packed key where 10 R38 puts it. -/
theorem keyByte_packed (k0 k1 k2 k3 : Byte) (i : Nat) :
    keyByte (BitVec.ofNat 32 (fromBE [k0, k1, k2, k3])) i = [k0, k1, k2, k3].getD (i % 4) 0 := by
  have hi : i % 4 = 0 ∨ i % 4 = 1 ∨ i % 4 = 2 ∨ i % 4 = 3 := by omega
  have h0 := k0.isLt
  have h1 := k1.isLt
  have h2 := k2.isLt
  have h3 := k3.isLt
  apply BitVec.eq_of_toNat_eq
  simp only [keyByte, BitVec.extractLsb'_toNat, BitVec.toNat_ofNat, Nat.shiftRight_eq_div_pow, fromBE, fromBEAcc]
  rcases hi with h | h | h | h <;> simp only [h, List.getD_cons_zero, List.getD_cons_succ] <;> omega

/-- Settles O22: the byte at each index, and the key byte it meets. -/
theorem maskXorIsBytewise : Obligations.MaskXorIsBytewise := by
  refine fun k0 k1 k2 k3 p => ⟨maskXor_length _ p, fun i => ?_⟩
  rw [maskXor, maskFrom_getElem?, Nat.zero_add, keyByte_packed]

@[simp] theorem keyByte_zero (i : Nat) : keyByte 0#32 i = 0#8 := BitVec.extractLsb'_zero

theorem maskFrom_zero (i : Nat) (p : List Byte) : maskFrom 0#32 i p = p := by
  induction p generalizing i with
  | nil => rfl
  | cons b bs ih => simp [maskFrom, ih]

/-- Settles O23: each byte is XORed twice with one key byte, or once with zero. -/
theorem maskXorIsSelfInverse : Obligations.MaskXorIsSelfInverse :=
  fun key p => ⟨maskXor_maskXor key p, maskFrom_zero 0 p⟩

end Sys2Proof.Machine
end

section
/-! SHA-1 padding (41 R179), the vector of the accept key, and the shape of Base64 output (41 R185 to R188). -/

namespace Sys2Proof.Machine

/-! ### SHA-1 -/

@[simp] theorem be64_length (n : BitVec 64) : (be64 n).length = 8 := rfl

@[simp] theorem sha1Pad_length (m : List Byte) :
    (sha1Pad m).length = m.length + 1 + sha1Zeros m.length + 8 := by
  simp [sha1Pad]
  omega

/-- The zero bytes fill the last block (41 R179). -/
theorem sha1Zeros_fills (l : Nat) : (l + 1 + sha1Zeros l + 8) % 64 = 0 := by
  unfold sha1Zeros
  omega

/-- No fewer zero bytes do. -/
theorem sha1Zeros_le {l z : Nat} (h : (l + 1 + z + 8) % 64 = 0) : sha1Zeros l ≤ z := by
  unfold sha1Zeros
  omega

/-- Settles O19: the length of the padded message is the sum that `sha1Zeros` makes a multiple of 64. -/
theorem sha1PaddingFillsBlocks : Obligations.Sha1PaddingFillsBlocks := by
  refine fun m => ⟨by simp [sha1Pad], ?_, sha1Zeros_fills m.length, fun z => sha1Zeros_le⟩
  rw [sha1Pad_length]
  exact sha1Zeros_fills m.length

@[simp] theorem sha1_length (m : List Byte) : (sha1 m).length = 20 := rfl

/-! ### Base64 -/

theorem base64Char_ascii (v : BitVec 6) : (base64Char v).toNat < 128 := by
  revert v
  decide

theorem base64_ascii (bs : List Byte) : ∀ b ∈ base64 bs, b.toNat < 128 := by
  fun_induction base64 bs with
  | case1 => simp
  | case2 b0 => simp [base64Char_ascii]
  | case3 b0 b1 => simp [base64Char_ascii]
  | case4 b0 b1 b2 bs ih => simpa [base64Char_ascii] using ih

/-- Every group of up to three bytes gives four characters (41 R186, R187). -/
theorem base64_length (bs : List Byte) : (base64 bs).length = 4 * ((bs.length + 2) / 3) := by
  fun_induction base64 bs with
  | case1 | case2 | case3 => simp
  | case4 b0 b1 b2 bs ih =>
    simp only [List.length_cons, ih]
    omega

/-- After full groups Base64 begins anew (41 R186). -/
theorem base64_append {as : List Byte} (h : as.length % 3 = 0) (bs : List Byte) :
    base64 (as ++ bs) = base64 as ++ base64 bs := by
  fun_induction base64 as with
  | case1 => rfl
  | case2 | case3 => simp at h
  | case4 b0 b1 b2 as ih =>
    simp only [List.length_cons] at h
    simp only [List.cons_append, base64, ih (by omega)]

/-- Two bytes over after full groups: the last two characters are that of a sextet with low bits 0, and `=` (41 R187). -/
theorem base64_two_over {bs : List Byte} {n : Nat} (h : bs.length = 3 * n + 2) :
    (base64 bs)[4 * n + 3]? = some 0x3D ∧
      ∃ v : BitVec 4, (base64 bs)[4 * n + 2]? = some (base64Char (v ++ (0 : BitVec 2))) := by
  have hfull : (bs.take (3 * n)).length = 3 * n := by simp [h]
  have hover : (bs.drop (3 * n)).length = 2 := by simp [h]
  obtain ⟨b0, b1, hb⟩ := List.length_eq_two.mp hover
  have hlen : (base64 (bs.take (3 * n))).length = 4 * n := by
    rw [base64_length, hfull]
    omega
  have hsplit : base64 bs = base64 (bs.take (3 * n)) ++ base64 [b0, b1] := by
    rw [← base64_append (by omega), ← hb, List.take_append_drop]
  rw [hsplit, List.getElem?_append_right (by omega), List.getElem?_append_right (by omega), hlen,
    Nat.add_sub_cancel_left, Nat.add_sub_cancel_left]
  exact ⟨rfl, b1.extractLsb' 0 4, rfl⟩

/-! ### The accept key -/

@[simp] theorem acceptKey_length (key : List Byte) : (acceptKey key).length = 28 := by
  rw [acceptKey, base64_length, sha1_length]

/-- Settles O17: the digest has six full groups of three bytes and two bytes over. -/
theorem acceptKeyShape : Obligations.AcceptKeyShape := fun key =>
  ⟨acceptKey_length key, base64_ascii _, base64_two_over (n := 6) (sha1_length _)⟩

/-- The digest of vector L1-1 (95 L1-1). -/
def digestL11 : List Byte :=
  [0xb3, 0x7a, 0x4f, 0x2c, 0xc0, 0x62, 0x4f, 0x16, 0x90, 0xf6, 0x46, 0x06, 0xcf, 0x38, 0x59, 0x45, 0xb2, 0xbe, 0xc4,
    0xea]

theorem sha1_keyL11 :
    sha1 ([0x64, 0x47, 0x68, 0x6c, 0x49, 0x48, 0x4e, 0x68, 0x62, 0x58, 0x42, 0x73, 0x5a, 0x53, 0x42, 0x75, 0x62, 0x32,
      0x35, 0x6a, 0x5a, 0x51, 0x3d, 0x3d] ++ magicGuid) = digestL11 := by decide +kernel

/-- Settles O18: the model run on the vector, up to the digest and from there. -/
theorem handshakeVectorL11 : Obligations.HandshakeVectorL11 := by
  unfold Obligations.HandshakeVectorL11
  rw [sha1_keyL11]
  decide

end Sys2Proof.Machine
end

section
/-! `HSDERIVE` (41 R170 to R191) and the checks of a length against its capacity (41 R171, 42 R229, 43 R247). -/

namespace Sys2Proof.Machine

/-! ### The checks of `HSDERIVE` -/

theorem headersOverCap_iff (s : State) :
    headersOverCap s = true ↔
      s.cfg.hdrCap < s.hconnLen.toNat ∨ s.cfg.hdrCap < s.hupgLen.toNat ∨ s.cfg.hdrCap < s.hkeyLen.toNat := by
  simp [headersOverCap, or_assoc]

theorem headersOverCap_eq_false {s : State} (hc : s.hconnLen.toNat ≤ s.cfg.hdrCap)
    (hu : s.hupgLen.toNat ≤ s.cfg.hdrCap) (hk : s.hkeyLen.toNat ≤ s.cfg.hdrCap) : headersOverCap s = false := by
  simp [headersOverCap, hc, hu, hk]

theorem isUpgrade_iff (s : State) :
    isUpgrade s = true ↔ headerConn s = upgradeWord ∧ headerUpg s = websocketWord := by
  simp [isUpgrade]

theorem isUpgrade_eq_false_iff (s : State) :
    isUpgrade s = false ↔ headerConn s ≠ upgradeWord ∨ headerUpg s ≠ websocketWord := by
  rw [← Bool.not_eq_true, isUpgrade_iff, not_and_or]

@[simp] theorem headerKey_length (s : State) : (headerKey s).length = s.hkeyLen.toNat := bufSlice_length _ _ _

/-! ### `HSDERIVE` by the check that ends it -/

theorem execHsderive_overCap {s : State} (hs : s.sess = .hs) (hc : headersOverCap s = true) :
    execHsderive s = .refused .headerOverCapacity := by
  rw [execHsderive, if_pos hs, if_pos hc]

section
variable {s : State} (hs : s.sess = .hs) (hc : headersOverCap s = false)
include hs hc

theorem execHsderive_notUpgrade (hu : isUpgrade s = false) :
    execHsderive s = .next (failHandshake .notAnUpgradeRequest s) := by
  simp [execHsderive, hs, hc, hu]

theorem execHsderive_noKey (hu : isUpgrade s = true) (hk : s.hkeyLen.toNat = 0) :
    execHsderive s = .next (failHandshake .missingHandshakeKey s) := by
  simp [execHsderive, hs, hc, hu, hk]

theorem execHsderive_accepts (hu : isUpgrade s = true) (hk : s.hkeyLen.toNat ≠ 0) :
    execHsderive s = .next (acceptHandshake s) := by
  simp [execHsderive, hs, hc, hu, hk]

end

/-- Settles O14: every check passes, the key check because the key has a byte. -/
theorem hsderiveAcceptsUpgrade : Obligations.HsderiveAcceptsUpgrade := by
  intro s hs hconn hupg hkey hcw huw hne
  have hk : s.hkeyLen.toNat ≠ 0 := by
    rw [← headerKey_length]
    exact (List.length_pos_iff.mpr hne).ne'
  exact execHsderive_accepts hs (headersOverCap_eq_false hconn hupg hkey) ((isUpgrade_iff s).mpr ⟨hcw, huw⟩) hk

/-- Settles O15: the upgrade checks fail, or they pass and the key check fails. -/
theorem hsderiveRejectsInOrder : Obligations.HsderiveRejectsInOrder := by
  intro s hs hconn hupg hkey
  have hc := headersOverCap_eq_false hconn hupg hkey
  refine ⟨fun hw => ?_, fun hcw huw hk => ?_⟩
  · exact execHsderive_notUpgrade hs hc ((isUpgrade_eq_false_iff s).mpr hw)
  · exact execHsderive_noKey hs hc ((isUpgrade_iff s).mpr ⟨hcw, huw⟩) (by rw [hk]; rfl)

/-- What `HSDERIVE` answers when it is not refused (41 R191). -/
theorem execHsderive_next {s t : State} (h : execHsderive s = .next t) :
    t = illegalState s ∨ (∃ e, t = failHandshake e s) ∨ t = acceptHandshake s := by
  unfold execHsderive at h
  split_ifs at h <;> cases h
  · exact .inr (.inl ⟨_, rfl⟩)
  · exact .inr (.inl ⟨_, rfl⟩)
  · exact .inr (.inr rfl)
  · exact .inl rfl

/-- Settles O57: only the accepted handshake fills `ACCEPT`, from index 0 with the 28 bytes of the accept key. -/
theorem frameOfHsderive : Obligations.FrameOfHsderive := by
  intro s t h
  rcases execHsderive_next h with rfl | ⟨e, rfl⟩ | rfl
  · exact ⟨rfl, fun _ _ => rfl⟩
  · exact ⟨rfl, fun _ _ => rfl⟩
  · refine ⟨rfl, fun i hi => ?_⟩
    exact bufGet_bufFill_outside s.accept 0 (acceptKey (headerKey s)) (.inr (by simpa using hi))

/-! ### Lengths above their capacity -/

/-- `DecodeFrame` is refused once the extended length says more than `PBUF` holds (42 R229). -/
theorem decodeFrame_overCap {b0 b1 : Byte} {ext rest : List Byte} {s : State} (hop : headerOpcode b0 ≠ 0x8)
    (h : s.rx = b0 :: b1 :: (ext ++ rest)) (hx : ext.length = extLen (headerLen7 b1))
    (hc : s.cfg.pbufCap < (lenDecode (headerLen7 b1) ext).toNat) : decodeFrame [] s = .overCap := by
  rw [decodeFrame_header h, afterHeader, if_neg hop, readExt]
  simp only [setHeader]
  rw [rxRead_append rfl hx]
  exact if_pos hc

theorem txlenOverCap_iff (s : State) : txlenOverCap s = true ↔ s.cfg.txbufCap < s.txlen.toNat := decide_eq_true_iff

theorem exec_encode_overCap {s : State} (hm : mayEncode s = true) (hc : txlenOverCap s = true) :
    exec .encode s = .refused .txlenOverCapacity :=
  (if_pos hm).trans (if_pos hc)

theorem exec_encclose_overCap {s : State} (hm : mayEncode s = true) (hc : txlenOverCap s = true) :
    exec .encclose s = .refused .txlenOverCapacity :=
  (if_pos hm).trans (if_pos hc)

/-- Settles O16: each command is refused at its capacity check, `STEP` and `RUN` at the one of `DecodeFrame`. -/
theorem capacityChecksRefuse : Obligations.CapacityChecksRefuse := by
  refine ⟨fun s hs hover => ?_, fun s hs hover => ?_, fun s b0 b1 ext rest hs hcl hrx hop hx hover => ?_⟩
  · exact execHsderive_overCap hs ((headersOverCap_iff s).mpr hover)
  · have hm : mayEncode s = true := (mayEncode_iff s).mpr ⟨hs, trivial⟩
    have hc := (txlenOverCap_iff s).mpr hover
    exact ⟨exec_encode_overCap hm hc, exec_encclose_overCap hm hc⟩
  · have hm : mayDecode s = true := (mayDecode_iff s).mpr ⟨hs, hcl⟩
    rw [exec_decode hm, exec_step hm, exec_run hm, decodeFrame_overCap hop hrx hx hover]
    exact ⟨rfl, rfl, rfl⟩

end Sys2Proof.Machine
end

section
/-! `DECODE` on a whole frame, on a close header and on an RX that ended; the header that `STEP` or `RUN` waits for. -/

namespace Sys2Proof.Machine

/-! ### A whole frame -/

/-- Settles O25: `DecodeFrame` on the whole frame passes the `fin` test. -/
theorem decodeReturnsFrame : Obligations.DecodeReturnsFrame := by
  intro s b0 b1 key ext payload rest hs hc hop hfin hfit hrx
  rw [exec_decode ((mayDecode_iff s).mpr ⟨hs, hc⟩), decodeFrame_whole hop hfit hrx, wholeResult, if_pos hfin]
  rfl

/-- Error entry in an owned session is the session over (60 R313). -/
theorem failSession_sessionOver (e : Status) {s : State} (h : s.owned = true) :
    failSession e s = sessionOver e s := by
  rw [failSession_owned e h, List.append_assoc]
  rfl

/-- Settles O26: `DecodeFrame` on the whole frame fails the `fin` test, with the frame stored. -/
theorem decodeRejectsFragment : Obligations.DecodeRejectsFragment := by
  intro s b0 b1 key ext payload rest hs hc hown hop hfin hfit hrx
  rw [exec_decode ((mayDecode_iff s).mpr ⟨hs, hc⟩), decodeFrame_whole hop hfit hrx, wholeResult,
    if_neg (by simp [hfin])]
  exact congrArg Host.Outcome.next (failSession_sessionOver _ hown)

/-- Settles O27: `DecodeFrame` stops at the close sentinel, before it looks at `fin`, `MASK` or `LEN7`. -/
theorem decodeStopsAtClose : Obligations.DecodeStopsAtClose := by
  intro s b0 b1 rest hs hc hop hrx
  rw [exec_decode ((mayDecode_iff s).mpr ⟨hs, hc⟩), decodeFrame_close hop hrx]
  rfl

/-! ### What the encoder sends, decoded -/

/-- Header byte 0 of a frame the encoder sends (43 R241): `fin = 1`, RSV 0 and the opcode. -/
theorem encodeHeader_byte0 (opcode : BitVec 4) : (0x80 : Byte) ||| opcode.setWidth 8 = headerByte0 true 0 opcode := by
  revert opcode
  decide

/-- The encoder's header is that of an unmasked frame whose length code says `n` (43 R241, R242). -/
theorem encodeHeader_fields (opcode : BitVec 4) (n : Word) :
    ∃ b1 ext, encodeHeader opcode n = headerByte0 true 0 opcode :: b1 :: ext ∧ headerMasked b1 = false ∧
      ext.length = extLen (headerLen7 b1) ∧ lenDecode (headerLen7 b1) ext = n := by
  obtain ⟨b1, ext, hn, hx, hl⟩ := lengthCodeRoundTrip n
  obtain ⟨b1', ext', hn', hm⟩ := lenEncode_unmasked n
  cases hn.symm.trans hn'
  exact ⟨b1, ext, by rw [encodeHeader, encodeHeader_byte0, hn], hm, hx.symm, hl⟩

/-- Settles O36: what the encoder sends is a whole frame (`encodeHeader_fields`), and `DECODE` returns it. -/
theorem encodedFrameDecodesBack : Obligations.EncodedFrameDecodesBack := by
  intro s opcode payload rest hs hc hop hlen hcap hrx
  obtain ⟨b1, ext, he, hm, hx, hl⟩ := encodeHeader_fields opcode (BitVec.ofNat 32 payload.length)
  have hn : (BitVec.ofNat 32 payload.length).toNat = payload.length := by
    rw [BitVec.toNat_ofNat]
    exact Nat.mod_eq_of_lt hlen
  have hfit : frameFits (headerLen7 b1) ext payload s.cfg := ⟨hx, by rw [hl, hn], hcap⟩
  have hrx' : s.rx = headerByte0 true 0 opcode :: b1 :: (frameTail (headerMasked b1) 0 ext payload ++ rest) := by
    rw [hrx, he, hm]
    simp [frameTail]
  have hfin : headerFin (headerByte0 true 0 opcode) = true := headerFin_byte0 ..
  have hopc : headerOpcode (headerByte0 true 0 opcode) = opcode := headerOpcode_byte0 ..
  refine ⟨_, decodeReturnsFrame s _ b1 0 ext payload rest hs hc (hopc.symm ▸ hop) hfin hfit hrx', rfl, hs, rfl, hopc,
    hfin, headerRsv_byte0 .., hm, hn, rfl, ?_⟩
  exact if_neg (by simp [hm])

/-! ### An RX that ended -/

/-- Settles O28: the frame cut short makes `DecodeFrame` run dry (`RunsDry`), which on an ended RX cuts the session
off (`CutOff`). -/
theorem decodeTruncatedCloses : Obligations.DecodeTruncatedCloses := by
  intro i s hi hs hc hown hend h
  have hm : mayDecode s = true := (mayDecode_iff s).mpr ⟨hs, hc⟩
  have hdry := decodeFrame_runsDry h
  have hloop : ∀ l, ∃ t, keepRunning (finishFrame l (decodeFrame [] s)) = .next t ∧ CutOff s t := fun l => by
    obtain ⟨t, ht, hk, hcut⟩ := finishFrame_cutOff l hdry hend hown
    exact ⟨t, by rw [ht, hk], hcut⟩
  simp only [List.mem_cons, List.not_mem_nil, or_false] at hi
  rcases hi with rfl | rfl | rfl
  · rw [exec_decode hm]
    exact finishDecode_cutOff hdry hend hown
  · rw [exec_step hm]
    exact hloop .step
  · rw [exec_run hm]
    exact hloop .run

/-! ### The header that completes -/

/-- The bytes of a header, taken before and now: the iteration runs the frame instruction of it. -/
theorem iterate_header {l : Loop} {got tail : List Byte} {b0 b1 : Byte} {s : State} (hg : got.length < 2)
    (h : got ++ s.rx = b0 :: b1 :: tail) :
    iterate l got s = exec (decodeFrameHeader b0 b1)
      { s with rx := tail, rxPos := s.rxPos + (2 - got.length), engine := .frame l .hdr [] } := by
  have hlen := congrArg List.length h
  simp only [List.length_append, List.length_cons] at hlen
  have htake : got ++ s.rx.take (2 - got.length) = [b0, b1] := by
    calc got ++ s.rx.take (2 - got.length)
      _ = (got ++ s.rx).take 2 := by rw [List.take_append, List.take_of_length_le hg.le]
      _ = [b0, b1] := by rw [h]; rfl
  have hdrop : s.rx.drop (2 - got.length) = tail := by
    calc s.rx.drop (2 - got.length)
      _ = (got ++ s.rx).drop 2 := by rw [List.drop_append, List.drop_of_length_le hg.le, List.nil_append]
      _ = tail := by rw [h]; rfl
  rw [iterate, rxRead_enough (by omega), htake, exec_decodeFrameHeader, takeRx, hdrop]
  rfl

theorem resumeRead_header {l : Loop} {got : List Byte} {s : State} (he : s.engine = .frame l .hdr got) :
    resumeRead s = keepRunning (iterate l got s) := by
  unfold resumeRead
  rw [he]

/-- A frame instruction that `STEP` runs leaves no iteration to do. -/
theorem keepRunning_exec_step (b0 b1 : Byte) {s : State} (he : s.engine = .frame .step .hdr []) :
    keepRunning (exec (decodeFrameHeader b0 b1) s) = exec (decodeFrameHeader b0 b1) s := by
  have hl : loopOf s = .step := by simp only [loopOf, he]
  rw [exec_decodeFrameHeader, dispatchFrame_header, hl]
  split
  · exact keepRunning_finishFrame_step _
  · exact keepRunning_of_not_boundary (by simp [he])

/-- Settles O2: the waiting command takes up its iteration, whose header is now there. -/
theorem stepRunsFrameHeader : Obligations.StepRunsFrameHeader := by
  intro s l got bs tail b0 b1 rest hin ho he hg h
  have hstep : step s = keepRunning (exec (decodeFrameHeader b0 b1)
      { s with inputs := rest, rx := tail, rxPos := s.rxPos + (2 - got.length), engine := .frame l .hdr [] }) := by
    have hit := iterate_header (l := l) (s := { s with inputs := rest, rx := s.rx ++ bs }) hg
      (by rw [← List.append_assoc]; exact h)
    rw [step_of_inputs hin, applyInput, peerSend, if_pos ho]
    exact (resumeRead_header (s := { s with inputs := rest, rx := s.rx ++ bs }) he).trans (congrArg keepRunning hit)
  refine ⟨hstep, fun hl => ?_⟩
  subst hl
  rw [hstep]
  exact keepRunning_exec_step b0 b1 rfl

end Sys2Proof.Machine
end

section
/-! Bytes that arrive in two parts: a read that waits goes on with the second part as if both had arrived at once
(20 R72, 42 R230). -/

namespace Sys2Proof.Machine

/-- The peer's bytes `bs` stand behind the unread bytes of `s`. -/
def addRx (bs : List Byte) (s : State) : State := { s with rx := s.rx ++ bs }

@[simp] theorem addRx_rx (bs : List Byte) (s : State) : (addRx bs s).rx = s.rx ++ bs := rfl
@[simp] theorem addRx_rxEnd (bs : List Byte) (s : State) : (addRx bs s).rxEnd = s.rxEnd := rfl
@[simp] theorem addRx_rxb0 (bs : List Byte) (s : State) : (addRx bs s).rxb0 = s.rxb0 := rfl
@[simp] theorem addRx_rxb1 (bs : List Byte) (s : State) : (addRx bs s).rxb1 = s.rxb1 := rfl
@[simp] theorem addRx_cfg (bs : List Byte) (s : State) : (addRx bs s).cfg = s.cfg := rfl
@[simp] theorem addRx_engine (bs : List Byte) (s : State) : (addRx bs s).engine = s.engine := rfl

theorem addRx_addRx (as bs : List Byte) (s : State) : addRx bs (addRx as s) = addRx (as ++ bs) s := by
  simp [addRx]

theorem peerSend_opened (bs : List Byte) {s : State} (h : s.rxEnd = .opened) :
    peerSend bs s = resumeRead (addRx bs s) := if_pos h

theorem peerSend_not_opened (bs : List Byte) {s : State} (h : s.rxEnd ≠ .opened) : peerSend bs s = .next s := if_neg h

/-! ### `DecodeFrame` on more bytes -/

/-- What `RxRead(n)` makes of `bs` arriving after it gave this result. -/
def RxResult.feed (n : Nat) (bs : List Byte) : RxResult → RxResult
  | .got b s => .got b (addRx bs s)
  | .truncated s => .truncated (addRx bs s)
  | .waiting g s => rxRead n g (addRx bs s)

/-- What `DecodeFrame` makes of `bs` arriving after it gave this result. -/
def DecResult.feed (bs : List Byte) : DecResult → DecResult
  | .waiting phase got s => resumeDecode phase got (addRx bs s)
  | .frame o p s => .frame o p (addRx bs s)
  | .close s => .close (addRx bs s)
  | .err e s => .err e (addRx bs s)
  | .overCap => .overCap

/-- Taking what there was, and then `m` of what came, is taking both. -/
theorem takeRx_addRx_takeRx (m : Nat) (bs : List Byte) (s : State) :
    takeRx m (addRx bs (takeRx s.rx.length s)) = takeRx (s.rx.length + m) (addRx bs s) := by
  simp [takeRx, addRx, Nat.add_assoc]

/-- A read that took what there was and then its rest is the read that found both. -/
theorem rxRead_addRx (n : Nat) (sofar bs : List Byte) {s : State} (ho : s.rxEnd = .opened) :
    rxRead n sofar (addRx bs s) = (rxRead n sofar s).feed n bs := by
  by_cases h : n - sofar.length ≤ s.rx.length
  · rw [rxRead_enough h, rxRead_enough (by simp; omega)]
    simp [RxResult.feed, takeRx, addRx, List.take_append_of_le_length h, List.drop_append_of_le_length h]
  · have hlt := Nat.lt_of_not_le h
    obtain ⟨m, hm⟩ : ∃ m, n - sofar.length = s.rx.length + m := ⟨_, (Nat.add_sub_of_le hlt.le).symm⟩
    have hm' : n - (sofar ++ s.rx).length = m := by rw [List.length_append]; omega
    have hrest : (addRx bs (takeRx s.rx.length s)).rx = bs := by simp
    have hboth : (addRx bs s).rx.length = s.rx.length + bs.length := by simp
    rw [rxRead_short_opened hlt ho, RxResult.feed]
    by_cases hb : m ≤ bs.length
    · rw [rxRead_enough (by omega), rxRead_enough (by rw [hm', hrest]; exact hb), hm, hm', hrest, takeRx_addRx_takeRx]
      simp [List.take_append]
    · rw [rxRead_short_opened (s := addRx bs s) (by omega) ho,
        rxRead_short_opened (by rw [hm', hrest]; omega) (by exact ho), hrest, takeRx_addRx_takeRx, hboth]
      simp

theorem finishPayload_addRx (plen : Word) (raw bs : List Byte) (s : State) :
    finishPayload plen raw (addRx bs s) = (finishPayload plen raw s).feed bs := by
  unfold finishPayload
  rw [addRx_rxb0]
  split <;> rfl

theorem readPayload_addRx (plen : Word) (got bs : List Byte) {s : State} (ho : s.rxEnd = .opened) :
    readPayload plen got (addRx bs s) = (readPayload plen got s).feed bs := by
  unfold readPayload
  rw [rxRead_addRx _ _ _ ho]
  cases hr : rxRead plen.toNat got s with
  | got raw t => exact finishPayload_addRx plen raw bs t
  | truncated t => exact absurd ho (rxRead_truncated hr).2.1
  | waiting g t => rfl

theorem readKey_addRx (plen : Word) (got bs : List Byte) {s : State} (ho : s.rxEnd = .opened) :
    readKey plen got (addRx bs s) = (readKey plen got s).feed bs := by
  unfold readKey
  rw [rxRead_addRx _ _ _ ho]
  cases hr : rxRead 4 got s with
  | got k t =>
    obtain ⟨-, -, rfl⟩ := rxRead_got hr
    exact readPayload_addRx plen [] bs (s := setKey k _) ho
  | truncated t => exact absurd ho (rxRead_truncated hr).2.1
  | waiting g t => rfl

theorem afterLength_addRx (plen : Word) (bs : List Byte) {s : State} (ho : s.rxEnd = .opened) :
    afterLength plen (addRx bs s) = (afterLength plen s).feed bs := by
  unfold afterLength
  rw [addRx_cfg, addRx_rxb1]
  split_ifs
  · rfl
  · exact readKey_addRx plen [] bs ho
  · exact readPayload_addRx plen [] bs ho

theorem readExt_addRx (got bs : List Byte) {s : State} (ho : s.rxEnd = .opened) :
    readExt got (addRx bs s) = (readExt got s).feed bs := by
  unfold readExt
  rw [rxRead_addRx _ _ _ ho, addRx_rxb1]
  cases hr : rxRead (extLen (headerLen7 s.rxb1)) got s with
  | got ext t =>
    obtain ⟨-, -, rfl⟩ := rxRead_got hr
    exact afterLength_addRx _ bs ho
  | truncated t => exact absurd ho (rxRead_truncated hr).2.1
  | waiting g t =>
    obtain ⟨-, -, -, rfl⟩ := rxRead_waiting hr
    rfl

theorem afterHeader_addRx (b0 b1 : Byte) (bs : List Byte) {s : State} (ho : s.rxEnd = .opened) :
    afterHeader b0 b1 (addRx bs s) = (afterHeader b0 b1 s).feed bs := by
  unfold afterHeader
  split
  · rfl
  · exact readExt_addRx [] bs (s := setHeader b0 b1 s) ho

theorem decodeFrame_addRx (got bs : List Byte) {s : State} (ho : s.rxEnd = .opened) :
    decodeFrame got (addRx bs s) = (decodeFrame got s).feed bs := by
  unfold decodeFrame
  rw [rxRead_addRx _ _ _ ho]
  cases hr : rxRead 2 got s with
  | got hd t =>
    obtain ⟨-, -, rfl⟩ := rxRead_got hr
    exact afterHeader_addRx _ _ bs ho
  | truncated t => exact absurd ho (rxRead_truncated hr).2.1
  | waiting g t => rfl

/-- From whichever read it goes on, `DecodeFrame` on an open RX does not see how its bytes were cut. -/
theorem resumeDecode_addRx (phase : RxPhase) (got bs : List Byte) {s : State} (ho : s.rxEnd = .opened) :
    resumeDecode phase got (addRx bs s) = (resumeDecode phase got s).feed bs := by
  cases phase with
  | hdr => exact decodeFrame_addRx got bs ho
  | ext => exact readExt_addRx got bs ho
  | key plen => exact readKey_addRx plen got bs ho
  | pay plen => exact readPayload_addRx plen got bs ho

theorem resumeDecode_at (e : Engine) (phase : RxPhase) (got : List Byte) (s : State) :
    resumeDecode phase got { s with engine := e } = decAt e (resumeDecode phase got s) := by
  cases phase with
  | hdr => exact decodeFrame_at e got s
  | ext => exact readExt_at e got s
  | key plen => exact readKey_at e plen got s
  | pay plen => exact readPayload_at e plen got s

/-- Taken up again, `DecodeFrame` leaves no more unread than there was; if it waits, nothing, on an open RX. -/
theorem resumeDecode_advances (phase : RxPhase) (got : List Byte) (s : State) :
    (resumeDecode phase got s).Advances (s.rx.length + 1) := by
  have hs := Nat.lt_succ_self s.rx.length
  cases phase with
  | hdr =>
    rw [resumeDecode, decodeFrame]
    cases hr : rxRead 2 got s with
    | got hd t =>
      obtain ⟨-, -, rfl⟩ := rxRead_got hr
      exact afterHeader_advances (Nat.lt_of_le_of_lt (takeRx_length_le _ s) hs)
    | truncated t => trivial
    | waiting g t => exact waiting_advances hr
  | ext => exact readExt_advances hs
  | key plen => exact readKey_advances hs
  | pay plen => exact readPayload_advances hs

/-! ### A command on more bytes -/

theorem closeSession_addRx (bs : List Byte) (s : State) : closeSession (addRx bs s) = addRx bs (closeSession s) := by
  cases h : s.owned with
  | true => rw [closeSession_owned h, closeSession_owned (s := addRx bs s) h]; rfl
  | false => rw [closeSession_not_owned h, closeSession_not_owned (s := addRx bs s) h]; rfl

theorem failSession_addRx (e : Status) (bs : List Byte) (s : State) :
    failSession e (addRx bs s) = addRx bs (failSession e s) :=
  closeSession_addRx bs (logEvent e (complete e s))

/-- A write result whose state is another function of it. -/
def TxResult.map (f : State → State) : TxResult → TxResult
  | .ok s => .ok (f s)
  | .failed s => .failed (f s)
  | .waiting rest s => .waiting rest (f s)

/-- An encode result whose state is another function of it. -/
def EncResult.map (f : State → State) : EncResult → EncResult
  | .ok s => .ok (f s)
  | .ioError s => .ioError (f s)
  | .waiting job s => .waiting job (f s)

theorem nextDraw_addRx (bs : List Byte) (s : State) : nextDraw (addRx bs s) = nextDraw s := rfl

theorem dropDraw_addRx (bs : List Byte) (s : State) : dropDraw (addRx bs s) = addRx bs (dropDraw s) := by
  unfold dropDraw addRx
  cases s.txDraws <;> rfl

theorem txWrite_addRx (cs bs : List Byte) (s : State) :
    txWrite cs (addRx bs s) = (txWrite cs s).map (addRx bs) := by
  unfold txWrite
  rw [nextDraw_addRx, dropDraw_addRx]
  cases nextDraw s <;> rfl

theorem writePayload_addRx (rest bs : List Byte) (s : State) :
    writePayload rest (addRx bs s) = (writePayload rest s).map (addRx bs) := by
  unfold writePayload
  rw [txWrite_addRx]
  cases txWrite rest s <;> rfl

/-- The writes do not look at RX. -/
theorem encodeFrame_addRx (o : BitVec 4) (p bs : List Byte) (s : State) :
    encodeFrame o p (addRx bs s) = (encodeFrame o p s).map (addRx bs) := by
  unfold encodeFrame writeHeader
  rw [txWrite_addRx]
  cases txWrite _ s with
  | ok t => exact writePayload_addRx p bs t
  | failed t => rfl
  | waiting r t => rfl

/-! ### A command taken up again by an arrival -/

theorem resumeRead_of_not_inRead {s : State} (h : inRead s = false) : resumeRead s = .next s := by
  unfold inRead at h
  unfold resumeRead
  split at h <;> simp_all

theorem inRead_of_idle {s : State} (h : s.engine = .idle) : inRead s = false := by
  simp [inRead, h]

theorem Leaves.rxEnd {w : Work} {s t : State} (h : Leaves w s t) : t.rxEnd = s.rxEnd := by
  cases h with
  | stays h => rw [h]
  | sentinel h => rw [h]
  | closes c h => rw [h]; rfl

/-- After the answer `f`, the arrival of `bs` on an open RX leads to `g`; and `f` waits in a read only on an open RX. -/
def TakenUp (bs : List Byte) (f g : Result) : Prop :=
  ∀ t, f = .next t → (inRead t = true → t.rxEnd = .opened) ∧ (t.rxEnd = .opened → peerSend bs t = g)

section
variable {bs : List Byte}

/-- A command that is not in a read leaves the arrival unread. -/
theorem TakenUp.done {t : State} (h : inRead t = false) : TakenUp bs (.next t) (.next (addRx bs t)) := by
  intro u hu
  cases hu
  refine ⟨fun hr => by simp [h] at hr, fun ho => ?_⟩
  rw [peerSend_opened bs ho, resumeRead_of_not_inRead (s := addRx bs t) h]

theorem TakenUp.failed (e : Status) (s : State) :
    TakenUp bs (.next (failSession e s)) (.next (failSession e (addRx bs s))) := by
  rw [failSession_addRx]
  exact .done (inRead_of_idle (failSession_engine e s))

/-- The answer to the arrival matters on an open RX only, and no command opens RX. -/
theorem TakenUp.of_rxEnd {f g g' : Result} {s : State} (h : TakenUp bs f g) (hs : ∀ t, f = .next t → t.rxEnd = s.rxEnd)
    (hg : s.rxEnd = .opened → g' = g) : TakenUp bs f g' :=
  fun t ht => ⟨(h t ht).1, fun ho => by rw [hg (hs t ht ▸ ho), (h t ht).2 ho]⟩

theorem finishDecode_at (e : Engine) (r : DecResult) : finishDecode (decAt e r) = finishDecode r := by
  cases r with
  | err x s => simp only [decAt, finishDecode, failSession_at]
  | frame | close | waiting | overCap => rfl

theorem finishDecode_takenUp {n : Nat} {r : DecResult} (hr : r.Advances n) :
    TakenUp bs (finishDecode r) (finishDecode (r.feed bs)) := by
  cases r with
  | frame o p u => exact .done (t := complete .ok u) rfl
  | close u => exact .done (t := complete .closeReceived { u with closeRcvd := true }) rfl
  | err e u => exact .failed e u
  | waiting ph got u =>
    intro t ht
    cases ht
    refine ⟨fun _ => hr.2, fun ho => ?_⟩
    rw [peerSend_opened bs ho, resumeRead_decode rfl]
    exact (congrArg finishDecode (resumeDecode_at (.decode ph got) ph got (addRx bs u))).trans (finishDecode_at _ _)
  | overCap => exact fun t ht => by cases ht

theorem finishReply_takenUp (r : EncResult) : TakenUp bs (finishReply r) (finishReply (r.map (addRx bs))) := by
  cases r with
  | ok u =>
    show TakenUp bs (.next (closeSession _)) (.next (closeSession (addRx bs (complete .closeReceived u))))
    rw [closeSession_addRx]
    exact .done (inRead_of_idle (by simp))
  | ioError u => exact .failed .ioError u
  | waiting job u => exact .done (t := { u with engine := .reply job }) rfl

/-- What `STEP` or `RUN` makes of a decode result, `r'` being the result on more bytes. -/
theorem TakenUp.finishFrame {l : Loop} {r r' : DecResult} {s : State}
    (h : TakenUp bs (keepRunning (finishFrame l r)) (keepRunning (finishFrame l (r.feed bs))))
    (hs : ∀ u, decState r = some u → SameButRx s u) (hf : s.rxEnd = .opened → r' = r.feed bs) :
    TakenUp bs (keepRunning (finishFrame l r)) (keepRunning (finishFrame l r')) :=
  h.of_rxEnd (fun _ ht => (keepRunning_leaves (fun _ => finishFrame_leaves hs) ht).rxEnd) fun ho => by rw [hf ho]

/-- `RUN` at a frame boundary, if the arrival is taken up after the iteration there. -/
theorem boundary_takenUp {s : State} (hb : s.engine = .frame .run .hdr []) (hm : mayDecode s = true)
    (h : TakenUp bs (keepRunning (finishFrame .run (decodeFrame [] s)))
      (keepRunning (finishFrame .run ((decodeFrame [] s).feed bs)))) :
    TakenUp bs (keepRunning (.next s)) (keepRunning (.next (addRx bs s))) := by
  rw [keepRunning_boundary hb hm, keepRunning_boundary (s := addRx bs s) hb hm]
  exact h.finishFrame (fun u => decodeFrame_same) (decodeFrame_addRx [] bs)

/-- `STEP` or `RUN` that waits with nothing unread: the arrival goes to the read it waits in. -/
theorem waiting_takenUp (l : Loop) (ph : RxPhase) (got : List Byte) {u : State} (hm : mayDecode u = true)
    (hrx : u.rx = []) (ho : u.rxEnd = .opened) :
    TakenUp bs (keepRunning (.next { u with engine := .frame l ph got }))
      (keepRunning (finishFrame l (resumeDecode ph got (addRx bs u)))) := by
  have hk : keepRunning (.next { u with engine := .frame l ph got }) = .next { u with engine := .frame l ph got } :=
    runLoop_starved (s := { u with engine := .frame l ph got }) hrx ho _
  intro t ht
  cases hk.symm.trans ht
  refine ⟨fun _ => ho, fun ho => ?_⟩
  have hat := resumeDecode_at (.frame l ph got) ph got (addRx bs u)
  rw [← finishFrame_at (.frame l ph got) l, ← hat, peerSend_opened bs ho]
  exact resumeRead_frame rfl hm

/-- What `STEP` or `RUN` does with a decode result, and from there: by induction on the unread bytes, since an
iteration of `RUN` that completes leaves fewer (log 18). -/
theorem finishFrame_takenUp {n : Nat} {l : Loop} {r : DecResult} {s : State} (hm : mayDecode s = true)
    (hs : ∀ u, decState r = some u → SameButRx s u) (hr : r.Advances n) :
    TakenUp bs (keepRunning (finishFrame l r)) (keepRunning (finishFrame l (r.feed bs))) := by
  induction n using Nat.strong_induction_on generalizing l r s with
  | _ n ih =>
    cases r with
    | frame o p u =>
      have he := encodeFrame_same o p u
      simp only [finishFrame, DecResult.feed, encodeFrame_addRx]
      generalize encodeFrame o p u = e at he ⊢
      cases e with
      | ok v =>
        cases l with
        | step =>
          rw [keepRunning_finishEcho_step, keepRunning_finishEcho_step]
          exact .done (t := { v with status := .ok, engine := .idle }) rfl
        | run =>
          have hv : mayDecode v = true := ((hs u rfl).streams.trans he.streams).mayDecode.trans hm
          have hlen : v.rx.length < n := (congrArg (List.length ∘ State.rx) he).trans_lt hr
          exact boundary_takenUp rfl hv (ih _ hlen (s := { v with status := .ok, engine := .frame .run .hdr [] }) hv
            (fun u => decodeFrame_same) (decodeFrame_advances _))
      | ioError v =>
        simp only [EncResult.map, finishEcho, keepRunning_failSession]
        exact .failed .ioError v
      | waiting job v =>
        simp only [EncResult.map, finishEcho]
        rw [keepRunning_of_not_boundary (by simp), keepRunning_of_not_boundary (by simp)]
        exact .done (t := { v with engine := .echo l job }) rfl
    | close u =>
      have hc := encodeFrame_addRx 0x8 (be16 u.cfg.closeReplyCode ++ closeReplyReason) bs { u with closeRcvd := true }
      simp only [finishFrame, DecResult.feed, keepRunning_finishReply, encodeClose]
      exact hc ▸ finishReply_takenUp _
    | err e u =>
      simp only [finishFrame, DecResult.feed, keepRunning_failSession]
      exact .failed e u
    | waiting ph got u => exact waiting_takenUp l ph got ((hs u rfl).streams.mayDecode.trans hm) hr.1 hr.2
    | overCap => exact fun t ht => by cases ht

/-- `DECODE` from whichever read it is in. -/
theorem finishDecode_read_takenUp {n : Nat} {r r' : DecResult} {s : State}
    (hs : ∀ u, decState r = some u → SameButRx s u) (hr : r.Advances n) (hf : s.rxEnd = .opened → r' = r.feed bs) :
    TakenUp bs (finishDecode r) (finishDecode r') :=
  (finishDecode_takenUp hr).of_rxEnd (fun _ ht => (finishDecode_leaves hs ht).rxEnd) fun ho => by rw [hf ho]

/-- `STEP` and `RUN` likewise. -/
theorem finishFrame_read_takenUp (l : Loop) {n : Nat} {r r' : DecResult} {s : State} (hm : mayDecode s = true)
    (hs : ∀ u, decState r = some u → SameButRx s u) (hr : r.Advances n) (hf : s.rxEnd = .opened → r' = r.feed bs) :
    TakenUp bs (keepRunning (finishFrame l r)) (keepRunning (finishFrame l r')) :=
  (finishFrame_takenUp hm hs hr).finishFrame hs hf

/-- Whatever command waits, and whatever waits not. -/
theorem resumeRead_takenUp {s : State} (hi : engineInv s) : TakenUp bs (resumeRead s) (resumeRead (addRx bs s)) := by
  unfold engineInv at hi
  cases he : s.engine with
  | decode ph got =>
    rw [resumeRead_decode he, resumeRead_decode (s := addRx bs s) he]
    exact finishDecode_read_takenUp (fun u => resumeDecode_same) (resumeDecode_advances ph got s)
      (resumeDecode_addRx ph got bs)
  | frame l ph got =>
    rw [he] at hi
    have hm : mayDecode s = true := (mayDecode_iff s).mpr hi
    rw [resumeRead_frame he hm, resumeRead_frame (s := addRx bs s) he hm]
    exact finishFrame_read_takenUp l hm (fun u => resumeDecode_same) (resumeDecode_advances ph got s)
      (resumeDecode_addRx ph got bs)
  | idle | encode job | echo l job | reply job =>
    have hr : inRead s = false := by simp [inRead, he]
    rw [resumeRead_of_not_inRead hr, resumeRead_of_not_inRead (s := addRx bs s) hr]
    exact .done hr

end

/-! ### The decoding instructions -/

/-- Where decoding is not legal, they are illegal (44 R261). -/
theorem exec_decoder_illegal {i : Instr} (hi : i ∈ [Instr.decode, .step, .run] ∨ i.space = .frame) {s : State}
    (hm : mayDecode s = false) : exec i s = .next (illegalState s) := by
  have hm : ¬mayDecode s = true := by simp [hm]
  simp only [List.mem_cons, List.not_mem_nil, or_false] at hi
  rcases hi with (rfl | rfl | rfl) | hi
  · exact if_neg hm
  · exact if_neg hm
  · exact if_neg hm
  · obtain ⟨o, f, r, m, l, he⟩ := exec_frame hi s
    rw [he]
    exact if_neg hm

/-- Where it is, a frame instruction goes on after its header. -/
theorem exec_frame_legal {i : Instr} (hi : i.space = .frame) :
    ∃ b0 b1, ∀ s, mayDecode s = true → exec i s = finishFrame (loopOf s) (afterHeader b0 b1 s) := by
  obtain ⟨o, f, r, m, l, he⟩ := exec_frame_fields hi
  exact ⟨headerByte0 f r o, headerByte1 m l, fun s hm => (he s).trans (if_pos hm)⟩

theorem exec_takenUp {i : Instr} (hi : i ∈ [Instr.decode, .step, .run] ∨ i.space = .frame) {s : State}
    (hb : s.engine = .idle) (bs : List Byte) : TakenUp bs (exec i s) (exec i (addRx bs s)) := by
  cases hm : mayDecode s with
  | false =>
    rw [exec_decoder_illegal hi hm, exec_decoder_illegal hi (s := addRx bs s) hm]
    exact .done (t := illegalState s) (inRead_of_idle hb)
  | true =>
    have hm' : mayDecode (addRx bs s) = true := hm
    simp only [List.mem_cons, List.not_mem_nil, or_false] at hi
    rcases hi with (rfl | rfl | rfl) | hi
    · rw [exec_decode hm, exec_decode hm']
      exact finishDecode_read_takenUp (fun u => decodeFrame_same) (decodeFrame_advances s) (decodeFrame_addRx [] bs)
    · rw [exec_step hm, exec_step hm']
      exact finishFrame_read_takenUp .step hm (fun u => decodeFrame_same) (decodeFrame_advances s)
        (decodeFrame_addRx [] bs)
    · rw [exec_run hm, exec_run hm']
      exact finishFrame_read_takenUp .run hm (fun u => decodeFrame_same) (decodeFrame_advances s)
        (decodeFrame_addRx [] bs)
    · obtain ⟨b0, b1, he⟩ := exec_frame_legal hi
      rw [he s hm, he _ hm', loopOf_idle hb, loopOf_idle (s := addRx bs s) hb, ← keepRunning_finishFrame_step,
        ← keepRunning_finishFrame_step (afterHeader b0 b1 (addRx bs s))]
      exact finishFrame_read_takenUp .step hm (fun u => afterHeader_same)
        (afterHeader_advances (Nat.lt_succ_self s.rx.length)) (afterHeader_addRx b0 b1 bs)

/-- Settles O30: a read goes on as if all its bytes had been there (`resumeDecode_addRx`), and the command with it
(`TakenUp`). -/
theorem chunkingIsIrrelevant : Obligations.ChunkingIsIrrelevant := by
  refine ⟨fun s t as bs hinv h => ?_, fun i s t bs hi hb h hr => ?_, fun s bs rest hin => step_of_inputs hin⟩
  · by_cases ho : s.rxEnd = .opened
    · rw [peerSend_opened as ho] at h
      have htake := resumeRead_takenUp (bs := bs) (s := addRx as s) hinv.engineInv t h
      have hend : t.rxEnd = .opened := by
        rcases resumeRead_leaves h with rfl | ⟨-, hl⟩
        · exact ho
        · exact hl.rxEnd.trans ho
      rw [htake.2 hend, peerSend_opened (as ++ bs) ho, addRx_addRx]
    · rw [peerSend_not_opened as ho] at h
      cases h
      rw [peerSend_not_opened bs ho, peerSend_not_opened (as ++ bs) ho]
  · obtain ⟨hopen, htake⟩ := exec_takenUp hi (by simpa [busy] using hb) bs t h
    exact htake (hopen hr)

end Sys2Proof.Machine
end

section
/-! What `DECODE`, `STEP`, `RUN` and the frame instructions leave unchanged. -/

namespace Sys2Proof.Machine

/-! ### The bytes of `PBUF` that `DecodeFrame` does not write -/

/-- `t` has the bytes of `PBUF` that `s` has, at and above `RXPLEN` and at and above `PBUF_CAP` (42 R217, R229). -/
def PbufKept (s t : State) : Prop :=
  ∀ k, t.rxplen.toNat ≤ k ∨ s.cfg.pbufCap ≤ k → bufGet t.pbuf k = bufGet s.pbuf k

/-- `DecodeFrame` on `s` keeps those bytes unless it is truncated (42 R223). -/
def DecResult.KeepsPbuf (s : State) : DecResult → Prop
  | .frame _ _ t => PbufKept s t
  | .close t => PbufKept s t
  | .err e t => e = .ioTruncated ∨ PbufKept s t
  | .waiting _ _ t => PbufKept s t
  | .overCap => True

theorem PbufKept.of_same {s t : State} (h : t.pbuf = s.pbuf) : PbufKept s t := fun k _ => by rw [h]

theorem PbufKept.congr {s t u : State} (h : PbufKept s t) (hp : u.pbuf = t.pbuf) (hl : u.rxplen = t.rxplen) :
    PbufKept s u := fun k hk => by
  rw [hp]
  exact h k (hl ▸ hk)

@[simp] theorem unmask_length (raw : List Byte) (s : State) : (unmask raw s).length = raw.length := by
  unfold unmask
  split
  · exact maskXor_length _ _
  · rfl

theorem storePayload_pbufKept {plen : Word} {p : List Byte} {s : State} (hl : p.length = plen.toNat)
    (hc : plen.toNat ≤ s.cfg.pbufCap) : PbufKept s (storePayload plen p s) := fun k hk => by
  have hk : plen.toNat ≤ k := hk.elim id hc.trans
  exact bufGet_bufFill_outside s.pbuf 0 p (.inr (by omega))

theorem finishPayload_keepsPbuf {plen : Word} {raw : List Byte} {s : State} (hl : raw.length = plen.toNat)
    (hc : plen.toNat ≤ s.cfg.pbufCap) : (finishPayload plen raw s).KeepsPbuf s := by
  have hkept := storePayload_pbufKept (p := unmask raw s) (by rw [unmask_length, hl]) hc
  unfold finishPayload
  split
  · exact hkept
  · exact .inr hkept

theorem readPayload_keepsPbuf {plen : Word} {s : State} (hc : plen.toNat ≤ s.cfg.pbufCap) :
    (readPayload plen [] s).KeepsPbuf s := by
  unfold readPayload
  cases hr : rxRead plen.toNat [] s with
  | got raw t =>
    obtain ⟨hn, rfl, rfl⟩ := rxRead_got hr
    exact finishPayload_keepsPbuf (s := takeRx _ s) (List.length_take_of_le hn) hc
  | truncated t => exact .inl rfl
  | waiting g t =>
    obtain ⟨-, -, -, rfl⟩ := rxRead_waiting hr
    exact .of_same rfl

theorem readKey_keepsPbuf {plen : Word} {s : State} (hc : plen.toNat ≤ s.cfg.pbufCap) :
    (readKey plen [] s).KeepsPbuf s := by
  unfold readKey
  cases hr : rxRead 4 [] s with
  | got key t =>
    obtain ⟨-, -, rfl⟩ := rxRead_got hr
    exact readPayload_keepsPbuf (s := setKey key (takeRx _ s)) hc
  | truncated t => exact .inl rfl
  | waiting g t =>
    obtain ⟨-, -, -, rfl⟩ := rxRead_waiting hr
    exact .of_same rfl

theorem afterLength_keepsPbuf (plen : Word) (s : State) : (afterLength plen s).KeepsPbuf s := by
  unfold afterLength
  split_ifs with hc
  · trivial
  · exact readKey_keepsPbuf (Nat.le_of_not_lt hc)
  · exact readPayload_keepsPbuf (Nat.le_of_not_lt hc)

theorem readExt_keepsPbuf (s : State) : (readExt [] s).KeepsPbuf s := by
  unfold readExt
  cases hr : rxRead (extLen (headerLen7 s.rxb1)) [] s with
  | got ext t =>
    obtain ⟨-, -, rfl⟩ := rxRead_got hr
    exact afterLength_keepsPbuf _ (takeRx _ s)
  | truncated t => exact .inl rfl
  | waiting g t =>
    obtain ⟨-, -, -, rfl⟩ := rxRead_waiting hr
    exact .of_same rfl

theorem afterHeader_keepsPbuf (b0 b1 : Byte) (s : State) : (afterHeader b0 b1 s).KeepsPbuf s := by
  unfold afterHeader
  split
  · exact .of_same rfl
  · exact readExt_keepsPbuf (setHeader b0 b1 s)

theorem decodeFrame_keepsPbuf (s : State) : (decodeFrame [] s).KeepsPbuf s := by
  unfold decodeFrame
  cases hr : rxRead 2 [] s with
  | got hd t =>
    obtain ⟨-, -, rfl⟩ := rxRead_got hr
    exact afterHeader_keepsPbuf _ _ (takeRx _ s)
  | truncated t => exact .inl rfl
  | waiting g t =>
    obtain ⟨-, -, -, rfl⟩ := rxRead_waiting hr
    exact .of_same rfl

/-! ### The dispatch of its result -/

/-- A command that RX cut short: done, with `IOTruncated`. -/
def CutShort (t : State) : Prop := t.status = .ioTruncated ∧ t.engine = .idle

@[simp] theorem closeSession_status (s : State) : (closeSession s).status = s.status := by
  unfold closeSession
  split <;> rfl

@[simp] theorem closeSession_rxplen (s : State) : (closeSession s).rxplen = s.rxplen := by
  unfold closeSession
  split <;> rfl

@[simp] theorem failSession_rxplen (e : Status) (s : State) : (failSession e s).rxplen = s.rxplen :=
  closeSession_rxplen _

theorem failSession_cutShort (s : State) : CutShort (failSession .ioTruncated s) :=
  ⟨closeSession_status _, failSession_engine _ s⟩

/-- Error entry after `DecodeFrame`. -/
theorem failSession_keepsPbuf {e : Status} {s u : State} (h : e = .ioTruncated ∨ PbufKept s u) :
    PbufKept s (failSession e u) ∨ CutShort (failSession e u) := by
  rcases h with rfl | h
  · exact .inr (failSession_cutShort u)
  · exact .inl (h.congr (by simp) (by simp))

theorem finishDecode_keepsPbuf {r : DecResult} {s t : State} (hr : r.KeepsPbuf s) (h : finishDecode r = .next t) :
    PbufKept s t ∨ CutShort t := by
  cases r with
  | frame o p u | close u | waiting ph got u =>
    cases h
    exact .inl hr
  | err e u =>
    cases h
    exact failSession_keepsPbuf hr
  | overCap => cases h

theorem finishEcho_keepsPbuf {l : Loop} {r : EncResult} {s t u : State} (hr : SameButTx u (encState r))
    (hu : PbufKept s u) (h : finishEcho l r = .next t) : PbufKept s t := by
  have hr : PbufKept s (encState r) := hu.congr (by rw [hr]) (by rw [hr])
  cases r with
  | ok v | waiting job v =>
    cases h
    exact hr
  | ioError v =>
    cases h
    exact hr.congr (failSession_pbuf _ v) (failSession_rxplen _ v)

theorem finishReply_keepsPbuf {r : EncResult} {s t u : State} (hr : SameButTx u (encState r))
    (hu : PbufKept s u) (h : finishReply r = .next t) : PbufKept s t := by
  have hr : PbufKept s (encState r) := hu.congr (by rw [hr]) (by rw [hr])
  cases r with
  | ok v =>
    cases h
    exact hr.congr (closeSession_pbuf _) (closeSession_rxplen _)
  | waiting job v =>
    cases h
    exact hr
  | ioError v =>
    cases h
    exact hr.congr (failSession_pbuf _ v) (failSession_rxplen _ v)

theorem finishFrame_keepsPbuf {l : Loop} {r : DecResult} {s t : State} (hr : r.KeepsPbuf s)
    (h : finishFrame l r = .next t) : PbufKept s t ∨ CutShort t := by
  cases r with
  | frame o p u => exact .inl (finishEcho_keepsPbuf (encodeFrame_same o p u) hr h)
  | close u => exact .inl (finishReply_keepsPbuf (encodeFrame_same _ _ _) (u := { u with closeRcvd := true }) hr h)
  | err e u =>
    cases h
    exact failSession_keepsPbuf hr
  | waiting ph got u =>
    cases h
    exact .inl hr
  | overCap => cases h

/-- What one iteration, legal or not, does to `PBUF`. -/
theorem iterate_keepsPbuf {l : Loop} {s t : State} (h : iterate l [] s = .next t) : PbufKept s t ∨ CutShort t := by
  rcases iterate_cases l [] s with hi | ⟨n, hi⟩ <;> rw [hi] at h
  · exact finishFrame_keepsPbuf (decodeFrame_keepsPbuf s) h
  · cases h
    exact .inl (.of_same rfl)

/-- `t` has the bytes of `PBUF` that `s` has above every frame that fits. -/
def KeptAboveCap (s t : State) : Prop := ∀ k, s.cfg.pbufCap ≤ k → bufGet t.pbuf k = bufGet s.pbuf k

theorem PbufKept.aboveCap {s t : State} (h : PbufKept s t) : KeptAboveCap s t := fun k hk => h k (.inr hk)

theorem KeptAboveCap.trans {s t u : State} (h : KeptAboveCap s t) (hc : t.cfg = s.cfg) (h' : KeptAboveCap t u) :
    KeptAboveCap s u := fun k hk => (h' k (hc ▸ hk)).trans (h k hk)

/-- The iterations of `RUN` store one frame after the other; one that is cut short is the last. -/
theorem exec_run_keepsPbuf {s t : State} (hm : mayDecode s = true) (h : exec .run s = .next t) :
    KeptAboveCap s t ∨ CutShort t := by
  have hrun : exec .run s = keepRunning (.next (atHeader .run s)) := if_pos hm
  rw [hrun] at h
  refine (keepRunning_induct (P := fun u => u.cfg = s.cfg ∧ (KeptAboveCap s u ∨ CutShort u)) ?_ ?_ h).2
  · rintro u v ⟨hcfg, hu⟩ hb hv
    have hu := hu.resolve_right fun hc => by simp [CutShort, hb] at hc
    exact ⟨(iterate_leaves hv).cfg.trans hcfg, (iterate_keepsPbuf hv).imp_left fun hk => hu.trans hcfg hk.aboveCap⟩
  · intro u hu
    cases hu
    exact ⟨rfl, .inl fun _ _ => rfl⟩

/-! ### The registers and the other buffers -/

/-- A command that reads leaves the operands, the other buffers and the handshake alone. -/
theorem Leaves.decoderFrame {w : Work} {s t : State} (h : Leaves w s t) :
    t = { s with
      rxb0 := t.rxb0, rxb1 := t.rxb1, rxplen := t.rxplen, rxmkey := t.rxmkey, pbuf := t.pbuf, rx := t.rx
      rxPos := t.rxPos, freeCount := t.freeCount, tx := t.tx, events := t.events, txDraws := t.txDraws
      drawCount := t.drawCount, status := t.status, sess := t.sess, owned := t.owned, released := t.released
      closeRcvd := t.closeRcvd, engine := t.engine } := by
  cases h with
  | stays h => rw [h]
  | sentinel h => rw [h]
  | closes c h => rw [h]; rfl

/-- `t` has the TX bytes and the draws of `s`. -/
def TransmitSideKept (s t : State) : Prop := t.tx = s.tx ∧ t.txDraws = s.txDraws ∧ t.drawCount = s.drawCount

theorem SameButRx.transmitSide {s t : State} (h : SameButRx s t) : TransmitSideKept s t := by
  rw [h]
  exact ⟨rfl, rfl, rfl⟩

theorem failSession_transmitSide (e : Status) {s t : State} (h : TransmitSideKept s t) :
    TransmitSideKept s (failSession e t) := by
  cases ho : t.owned with
  | true => rw [failSession_owned e ho]; exact h
  | false => rw [failSession_not_owned e ho]; exact h

/-- `DECODE` writes no TX byte and takes no draw. -/
theorem finishDecode_transmitSide {r : DecResult} {s t : State} (hr : ∀ u, decState r = some u → SameButRx s u)
    (h : finishDecode r = .next t) : TransmitSideKept s t := by
  cases r with
  | frame o p u | close u | waiting ph got u =>
    cases h
    exact (hr u rfl).transmitSide
  | err e u =>
    cases h
    exact failSession_transmitSide e (hr u rfl).transmitSide
  | overCap => cases h

/-- What a decoding instruction that is legal leaves: the session by how it ends, `PBUF` by the frames it stores. -/
theorem exec_decoder_leaves {i : Instr} (hi : i ∈ [Instr.decode, .step, .run] ∨ i.space = .frame) {s t : State}
    (hm : mayDecode s = true) (h : exec i s = .next t) :
    Leaves .reading s t ∧ (i ≠ .run → PbufKept s t ∨ CutShort t) ∧ (KeptAboveCap s t ∨ CutShort t) := by
  have once : PbufKept s t ∨ CutShort t → (i ≠ .run → PbufKept s t ∨ CutShort t) ∧ (KeptAboveCap s t ∨ CutShort t) :=
    fun hk => ⟨fun _ => hk, hk.imp_left PbufKept.aboveCap⟩
  simp only [List.mem_cons, List.not_mem_nil, or_false] at hi
  rcases hi with (rfl | rfl | rfl) | hi
  · rw [exec_decode hm] at h
    exact ⟨finishDecode_leaves (fun u => decodeFrame_same) h, once (finishDecode_keepsPbuf (decodeFrame_keepsPbuf s) h)⟩
  · rw [exec_step hm, keepRunning_finishFrame_step] at h
    exact ⟨finishFrame_leaves (fun u => decodeFrame_same) h, once (finishFrame_keepsPbuf (decodeFrame_keepsPbuf s) h)⟩
  · have hleaves := h
    rw [exec_run hm] at hleaves
    exact ⟨keepRunning_leaves (fun _ => finishFrame_leaves fun _ => decodeFrame_same) hleaves,
      fun hne => absurd rfl hne, exec_run_keepsPbuf hm h⟩
  · obtain ⟨b0, b1, he⟩ := exec_frame_legal hi
    rw [he s hm] at h
    exact ⟨finishFrame_leaves (fun u => afterHeader_same) h,
      once (finishFrame_keepsPbuf (afterHeader_keepsPbuf b0 b1 s) h)⟩

/-- Settles O59: by how the command leaves the session (`Leaves`) and by what `DecodeFrame` stores (`PbufKept`). -/
theorem frameOfDecoders : Obligations.FrameOfDecoders := by
  intro i s t hi h
  cases hm : mayDecode s with
  | false =>
    rw [exec_decoder_illegal hi hm] at h
    cases h
    exact ⟨rfl, fun _ => ⟨rfl, rfl, rfl⟩, fun _ _ _ _ => rfl, fun _ _ _ => rfl⟩
  | true =>
    obtain ⟨hl, honce, hcap⟩ := exec_decoder_leaves hi hm h
    have whole : t.status ≠ .ioTruncated → ¬CutShort t := fun hs hc => hs hc.1
    refine ⟨hl.decoderFrame, fun hd => ?_, fun hs hr k hk => ?_, fun hs => hcap.resolve_right (whole hs)⟩
    · subst hd
      exact finishDecode_transmitSide (fun u => decodeFrame_same) ((exec_decode hm).symm.trans h)
    · exact (honce hr).resolve_right (whole hs) k (.inl hk)

end Sys2Proof.Machine
end

section
/-! `ENCODE`, `ENCCLOSE` and the replies of `STEP` and `RUN`, their writes completing or failing (43 R240 to R251,
44 R270, R271). -/

namespace Sys2Proof.Machine

/-! ### The two writes of a frame -/

/-- Both writes complete: the header and the payload are on TX (43 R240, R244). -/
theorem encodeFrame_sent (o : BitVec 4) (p : List Byte) {ds : List TxDraw} {s : State}
    (h : s.txDraws = .ok :: .ok :: ds) :
    encodeFrame o p s = .ok (sentBytes (encodeHeader o (BitVec.ofNat 32 p.length) ++ p) ds s) := by
  rw [encodeFrame_ok o p h, txAppend_txAppend]
  rfl

/-- The header write fails: no payload byte follows (43 R245). -/
theorem encodeFrame_header_fails (o : BitVec 4) (p : List Byte) {k : Nat} {ds : List TxDraw} {s : State}
    (h : s.txDraws = .fail k :: ds) :
    encodeFrame o p s = .ioError (sentBytes ((encodeHeader o (BitVec.ofNat 32 p.length)).take k) ds s) := by
  rw [encodeFrame, writeHeader, txWrite_fail h]
  rfl

/-- The payload write fails: the header stays sent (43 R245). -/
theorem encodeFrame_payload_fails (o : BitVec 4) (p : List Byte) {k : Nat} {ds : List TxDraw} {s : State}
    (h : s.txDraws = .ok :: .fail k :: ds) :
    encodeFrame o p s = .ioError (sentBytes (encodeHeader o (BitVec.ofNat 32 p.length) ++ p.take k) ds s) := by
  rw [encodeFrame, writeHeader, txWrite_ok h]
  simp only []
  rw [writePayload, txWrite_fail rfl]
  exact congrArg EncResult.ioError (txAppend_txAppend _ _ { s with txDraws := ds })

/-- Whichever command writes the frame, a failed header write ends the owned session with `IOError` (60 R305). -/
theorem Writer.frame_header_fails (w : Writer) (o : BitVec 4) (p : List Byte) {k : Nat} {ds : List TxDraw} {s : State}
    (ho : s.owned = true) (h : s.txDraws = .fail k :: ds) :
    w.finish (encodeFrame o p s) =
      .next (sessionOver .ioError (sentBytes ((encodeHeader o (BitVec.ofNat 32 p.length)).take k) ds s)) := by
  rw [encodeFrame_header_fails o p h, w.finish_ioError]
  exact congrArg Host.Outcome.next (failSession_sessionOver _ ho)

/-- So does a failed payload write. -/
theorem Writer.frame_payload_fails (w : Writer) (o : BitVec 4) (p : List Byte) {k : Nat} {ds : List TxDraw} {s : State}
    (ho : s.owned = true) (h : s.txDraws = .ok :: .fail k :: ds) :
    w.finish (encodeFrame o p s) =
      .next (sessionOver .ioError (sentBytes (encodeHeader o (BitVec.ofNat 32 p.length) ++ p.take k) ds s)) := by
  rw [encodeFrame_payload_fails o p h, w.finish_ioError]
  exact congrArg Host.Outcome.next (failSession_sessionOver _ ho)

/-! ### The frames of `ENCODE` and `ENCCLOSE` -/

theorem txlenOverCap_eq_false {s : State} (h : s.txlen.toNat ≤ s.cfg.txbufCap) : txlenOverCap s = false :=
  decide_eq_false (Nat.not_lt.mpr h)

@[simp] theorem txPayload_length (s : State) : (txPayload s).length = s.txlen.toNat := bufSlice_length _ _ _

theorem ofNat_txPayload_length (s : State) : BitVec.ofNat 32 (txPayload s).length = s.txlen := by
  rw [txPayload_length, BitVec.ofNat_toNat, BitVec.setWidth_eq]

/-- The two bytes of the code count in the length of a close payload (43 R248). -/
theorem ofNat_closePayload_length (code : BitVec 16) (s : State) :
    BitVec.ofNat 32 (be16 code ++ txPayload s).length = s.txlen + 2 := by
  have hl : (be16 code ++ txPayload s).length = s.txlen.toNat + 2 := by
    rw [List.length_append, txPayload_length, Nat.add_comm]
    rfl
  rw [hl, BitVec.ofNat_add, BitVec.ofNat_toNat, BitVec.setWidth_eq]
  rfl

/-- The length code takes 1, 3 or 9 bytes (43 R251). -/
theorem lenEncode_length (n : Word) :
    (lenEncode n).length = if n.toNat < 126 then 1 else if n.toNat ≤ 0xFFFF then 3 else 9 := by
  unfold lenEncode
  split_ifs <;> rfl

/-- Settles O31: the two writes of the frame complete; its length is that of the length code's form. -/
theorem encodeSendsFrame : Obligations.EncodeSendsFrame := by
  intro s ds hs hc hds
  constructor
  · rw [exec_encode ((mayEncode_iff s).mpr ⟨hs, trivial⟩) (txlenOverCap_eq_false hc), encodeFrame_sent _ _ hds,
      ofNat_txPayload_length]
    rfl
  · rw [List.length_append, List.length_cons, lenEncode_length, txPayload_length]
    split_ifs <;> rfl

/-- Settles O32: `ENCCLOSE` is the frame of opcode 0x8 whose payload is the code and the reason. -/
theorem enccloseSendsCloseFrame : Obligations.EnccloseSendsCloseFrame := by
  intro s ds hs hc hl hds
  rw [exec_encclose ((mayEncode_iff s).mpr ⟨hs, trivial⟩) (txlenOverCap_eq_false hc) hl, encodeFrame_sent _ _ hds,
    ofNat_closePayload_length]
  rfl

/-- Settles O33: the capacity check passes, the length check does not. -/
theorem enccloseTooLong : Obligations.EnccloseTooLong := by
  intro s hs hc hl
  rw [exec, execEncclose, if_pos ((mayEncode_iff s).mpr ⟨hs, trivial⟩), txlenOverCap_eq_false hc, if_pos hl]
  rfl

/-- Settles O34: the failed write is the header's or the payload's, whichever command sends the frame. -/
theorem encodeWriteFailureCloses : Obligations.EncodeWriteFailureCloses := by
  intro s k ds hs ho hcap
  have hm : mayEncode s = true := (mayEncode_iff s).mpr ⟨hs, trivial⟩
  have hc := txlenOverCap_eq_false hcap
  refine ⟨fun hds => ?_, fun hds => ?_, fun hl hds => ?_, fun hl hds => ?_⟩
  · rw [exec_encode hm hc, ← ofNat_txPayload_length s]
    exact Writer.encode.frame_header_fails _ _ ho hds
  · rw [exec_encode hm hc, ← ofNat_txPayload_length s]
    exact Writer.encode.frame_payload_fails _ _ ho hds
  · rw [exec_encclose hm hc hl, ← ofNat_closePayload_length s.ccode s]
    exact Writer.encode.frame_header_fails _ _ ho hds
  · rw [exec_encclose hm hc hl, ← ofNat_closePayload_length s.ccode s]
    exact Writer.encode.frame_payload_fails _ _ ho hds

/-! ### The replies of `STEP` and `RUN` -/

/-- `STEP` and `RUN` dispatch on `DecodeFrame`, each in its own loop. -/
theorem exec_step_or_run {i : Instr} (hi : i ∈ [Instr.step, .run]) {s : State} (hm : mayDecode s = true) :
    ∃ l, exec i s = keepRunning (finishFrame l (decodeFrame [] s)) := by
  simp only [List.mem_cons, List.not_mem_nil, or_false] at hi
  rcases hi with rfl | rfl
  · exact ⟨.step, exec_step hm⟩
  · exact ⟨.run, exec_run hm⟩

/-- On a whole frame with `fin = 1` the loop writes the echo (44 R271). -/
theorem keepRunning_finishFrame_whole (l : Loop) {b0 b1 : Byte} {key : Word} {ext payload rest : List Byte} {s : State}
    (hop : headerOpcode b0 ≠ 0x8) (hfin : headerFin b0 = true) (hf : frameFits (headerLen7 b1) ext payload s.cfg)
    (h : s.rx = b0 :: b1 :: (frameTail (headerMasked b1) key ext payload ++ rest)) :
    keepRunning (finishFrame l (decodeFrame [] s)) =
      (Writer.echo l).finish (encodeFrame (headerOpcode b0) payload (decodedFrame b0 b1 key payload rest
        (2 + (frameTail (headerMasked b1) key ext payload).length) s)) := by
  rw [decodeFrame_whole hop hf h, wholeResult, if_pos hfin]
  rfl

/-- On a close header it writes the close reply, with `CLOSE_RCVD` set (44 R270). -/
theorem keepRunning_finishFrame_close (l : Loop) {b0 b1 : Byte} {rest : List Byte} {s : State}
    (hop : headerOpcode b0 = 0x8) (h : s.rx = b0 :: b1 :: rest) :
    keepRunning (finishFrame l (decodeFrame [] s)) =
      Writer.reply.finish (encodeFrame 0x8 (be16 s.cfg.closeReplyCode ++ closeReplyReason)
        { s with rxb0 := b0, rxb1 := b1, rxplen := 0, rx := rest, rxPos := s.rxPos + 2, closeRcvd := true }) := by
  rw [decodeFrame_close hop h]
  exact keepRunning_finishReply _

/-- Settles O42: the echo and the close reply are frames like any other, and a failed write of theirs ends the
session. -/
theorem failedReplyCloses : Obligations.FailedReplyCloses := by
  intro i s b0 b1 key ext payload rest k ds hi hs hcl ho
  obtain ⟨l, he⟩ := exec_step_or_run hi ((mayDecode_iff s).mpr ⟨hs, hcl⟩)
  rw [he]
  refine ⟨fun hop hfin hfit hrx => ?_, fun hop hrx => ?_⟩
  · rw [keepRunning_finishFrame_whole l hop hfin hfit hrx]
    exact ⟨fun hds => (Writer.echo l).frame_header_fails _ _ ho hds,
      fun hds => (Writer.echo l).frame_payload_fails _ _ ho hds⟩
  · rw [keepRunning_finishFrame_close l hop hrx]
    exact ⟨fun hds => Writer.reply.frame_header_fails _ _ ho hds,
      fun hds => Writer.reply.frame_payload_fails _ _ ho hds⟩

/-! ### What `ENCODE` and `ENCCLOSE` leave unchanged -/

/-- `ENCODE` and `ENCCLOSE` write `STATUS` alone, or send one frame. -/
theorem exec_encoder_cases {i : Instr} (hi : i ∈ [Instr.encode, .encclose]) {s t : State} (h : exec i s = .next t) :
    (∃ e, t = { s with status := e }) ∨ ∃ o p, finishEncode (encodeFrame o p s) = .next t := by
  simp only [List.mem_cons, List.not_mem_nil, or_false] at hi
  rcases hi with rfl | rfl
  · rw [exec, execEncode] at h
    split_ifs at h
    · exact .inr ⟨_, _, h⟩
    · cases h
      exact .inl ⟨_, rfl⟩
  · rw [exec, execEncclose] at h
    split_ifs at h
    · cases h
      exact .inl ⟨_, rfl⟩
    · exact .inr ⟨_, _, h⟩
    · cases h
      exact .inl ⟨_, rfl⟩

/-- `t` is `s` but for TX, the events, the draws, `STATUS`, `SESS`, `OWNED`, `RELEASED` and the hidden position. -/
def SameButTxSession (s t : State) : Prop :=
  t = { s with
    tx := t.tx, events := t.events, txDraws := t.txDraws, drawCount := t.drawCount, status := t.status
    sess := t.sess, owned := t.owned, released := t.released, engine := t.engine }

theorem SameButTx.txSession {s t : State} (h : SameButTx s t) : SameButTxSession s t := by
  unfold SameButTxSession
  rw [h]

theorem SameButTxSession.trans {s t u : State} (h : SameButTxSession s t) (h' : SameButTxSession t u) :
    SameButTxSession s u := by
  unfold SameButTxSession at *
  rw [h', h]

theorem failSession_txSession (e : Status) (s : State) : SameButTxSession s (failSession e s) := by
  cases ho : s.owned with
  | true => rw [failSession_owned e ho]; rfl
  | false => rw [failSession_not_owned e ho]; rfl

theorem finishEncode_txSession {r : EncResult} {s t : State} (hr : SameButTx s (encState r))
    (h : finishEncode r = .next t) : SameButTxSession s t := by
  refine hr.txSession.trans ?_
  cases r with
  | ok u | waiting job u =>
    cases h
    rfl
  | ioError u =>
    cases h
    exact failSession_txSession .ioError u

/-- Settles O58: the two writes change the transmit side only, and what follows them the session. -/
theorem frameOfEncoders : Obligations.FrameOfEncoders := by
  intro i s t hi h
  rcases exec_encoder_cases hi h with ⟨e, rfl⟩ | ⟨o, p, hf⟩
  · rfl
  · exact finishEncode_txSession (encodeFrame_same o p s) hf

end Sys2Proof.Machine
end

section
/-! SUPPORT. What a command that uses the streams reports in `STATUS` and adds to the event history, and which
instructions a session state refuses. -/

namespace Sys2Proof.Machine

/-! ### The errors of `DecodeFrame` -/

/-- The errors that end an open session (60 R313). -/
def postUpgradeErrors : List Status := [.ioTruncated, .ioError, .fragmentationUnsupported]

/-- An error that `DecodeFrame` raises ends the session. -/
def DecResult.ErrorsEndSession : DecResult → Prop
  | .err e _ => e ∈ postUpgradeErrors
  | _ => True

theorem truncatedFrame_errors (s : State) : (truncatedFrame s).ErrorsEndSession := by
  simp [truncatedFrame, DecResult.ErrorsEndSession, postUpgradeErrors]

theorem finishPayload_errors (plen : Word) (raw : List Byte) (s : State) :
    (finishPayload plen raw s).ErrorsEndSession := by
  unfold finishPayload
  split
  · trivial
  · simp [DecResult.ErrorsEndSession, postUpgradeErrors]

theorem readPayload_errors (plen : Word) (got : List Byte) (s : State) :
    (readPayload plen got s).ErrorsEndSession := by
  unfold readPayload
  split
  · exact finishPayload_errors _ _ _
  · exact truncatedFrame_errors _
  · trivial

theorem readKey_errors (plen : Word) (got : List Byte) (s : State) : (readKey plen got s).ErrorsEndSession := by
  unfold readKey
  split
  · exact readPayload_errors _ _ _
  · exact truncatedFrame_errors _
  · trivial

theorem afterLength_errors (plen : Word) (s : State) : (afterLength plen s).ErrorsEndSession := by
  unfold afterLength
  split_ifs
  · trivial
  · exact readKey_errors plen [] s
  · exact readPayload_errors plen [] s

theorem readExt_errors (got : List Byte) (s : State) : (readExt got s).ErrorsEndSession := by
  unfold readExt
  split
  · exact afterLength_errors _ _
  · exact truncatedFrame_errors _
  · trivial

theorem afterHeader_errors (b0 b1 : Byte) (s : State) : (afterHeader b0 b1 s).ErrorsEndSession := by
  unfold afterHeader
  split
  · trivial
  · exact readExt_errors [] _

theorem decodeFrame_errors (got : List Byte) (s : State) : (decodeFrame got s).ErrorsEndSession := by
  unfold decodeFrame
  split
  · exact afterHeader_errors _ _ _
  · exact truncatedFrame_errors _
  · trivial

theorem resumeDecode_errors (phase : RxPhase) (got : List Byte) (s : State) :
    (resumeDecode phase got s).ErrorsEndSession := by
  cases phase with
  | hdr => exact decodeFrame_errors got s
  | ext => exact readExt_errors got s
  | key plen => exact readKey_errors plen got s
  | pay plen => exact readPayload_errors plen got s

/-! ### What is sent, logged and released -/

/-- From `s` to `t` nothing but bytes sent came to the history, the session is as it was, and `IllegalState` is not
reported anew. -/
structure Sends (s t : State) : Prop where
  sess : t.sess = s.sess
  owned : t.owned = s.owned
  status : t.status = .illegalState → s.status = .illegalState
  events : ∃ bs : List Byte, t.events = s.events ++ bs.map Event.sent

theorem Sends.of_events_eq {s t : State} (hsess : t.sess = s.sess) (ho : t.owned = s.owned)
    (hst : t.status = .illegalState → s.status = .illegalState) (he : t.events = s.events) : Sends s t :=
  ⟨hsess, ho, hst, [], by simp [he]⟩

theorem Sends.trans {s t u : State} (h : Sends s t) (h' : Sends t u) : Sends s u := by
  obtain ⟨as, ha⟩ := h.events
  obtain ⟨bs, hb⟩ := h'.events
  exact ⟨h'.sess.trans h.sess, h'.owned.trans h.owned, h.status ∘ h'.status, as ++ bs, by simp [hb, ha]⟩

theorem SameButRx.sends {s t : State} (h : SameButRx s t) : Sends s t := by
  rw [h]
  exact .of_events_eq rfl rfl id rfl

theorem txAppend_dropDraw_sends (bs : List Byte) (s : State) : Sends s (txAppend bs (dropDraw s)) := by
  rw [dropDraw_eq s]
  exact ⟨rfl, rfl, id, bs, rfl⟩

theorem writePayload_sends (rest : List Byte) (s : State) : Sends s (encState (writePayload rest s)) := by
  unfold writePayload
  rcases txWrite_cases rest s with ⟨-, h⟩ | ⟨k, -, h⟩ | ⟨k, -, h⟩ <;> rw [h] <;> exact txAppend_dropDraw_sends _ s

/-- Whatever `EncodeFrame` answers, from whichever write it goes on, it adds bytes sent. -/
theorem resumeEncode_sends (job : TxJob) (s : State) : Sends s (encState (resumeEncode job s)) := by
  cases job with
  | header rest payload =>
    simp only [resumeEncode, writeHeader]
    rcases txWrite_cases rest s with ⟨-, h⟩ | ⟨k, -, h⟩ | ⟨k, -, h⟩ <;> rw [h]
    · exact (txAppend_dropDraw_sends _ s).trans (writePayload_sends payload _)
    · exact txAppend_dropDraw_sends _ s
    · exact txAppend_dropDraw_sends _ s
  | payload rest => exact writePayload_sends rest s

theorem encodeFrame_sends (o : BitVec 4) (p : List Byte) (s : State) : Sends s (encState (encodeFrame o p s)) :=
  resumeEncode_sends (frameJob o p) s

/-- The release of an owned stream (44 R266). -/
def releaseOf (s : State) : List Event := if s.owned then [.release] else []

@[simp] theorem closeSession_sess (s : State) : (closeSession s).sess = .closed := by
  unfold closeSession
  split <;> rfl

@[simp] theorem failSession_sess (e : Status) (s : State) : (failSession e s).sess = .closed := closeSession_sess _

@[simp] theorem closeSession_events (s : State) : (closeSession s).events = s.events ++ releaseOf s := by
  unfold closeSession releaseOf
  split <;> simp

/-- Error entry logs, and then releases (60 R313). -/
@[simp] theorem failSession_events (e : Status) (s : State) :
    (failSession e s).events = s.events ++ .log e :: releaseOf s :=
  (closeSession_events _).trans (List.append_assoc s.events [.log e] (releaseOf s))

@[simp] theorem failSession_status (e : Status) (s : State) : (failSession e s).status = e := closeSession_status _

/-- What a command that uses the streams reports and adds to the history of `s`: bytes sent, while the session goes on;
then the release, if it closes the session; before it the log of the error that it reports, if it fails. -/
inductive Reports (s t : State) : Prop
  | goesOn (h : Sends s t)
  | closes (bs : List Byte) (he : t.events = s.events ++ bs.map Event.sent ++ releaseOf s) (hs : t.sess = .closed)
      (hst : t.status ≠ .illegalState)
  | fails (bs : List Byte) (he : t.events = s.events ++ bs.map Event.sent ++ .log t.status :: releaseOf s)
      (hs : t.sess = .closed) (hst : t.status ∈ postUpgradeErrors)

theorem Reports.after {s t u : State} (h : Sends s t) (h' : Reports t u) : Reports s u := by
  obtain ⟨as, ha⟩ := h.events
  have hr : releaseOf t = releaseOf s := by rw [releaseOf, h.owned, releaseOf]
  cases h' with
  | goesOn h' => exact .goesOn (h.trans h')
  | closes bs he hs hst => exact .closes (as ++ bs) (by simp [he, ha, hr]) hs hst
  | fails bs he hs hst => exact .fails (as ++ bs) (by simp [he, ha, hr]) hs hst

/-- `IllegalState` is no outcome of a command at work. -/
theorem Reports.status_ne {s t : State} (h : Reports s t) (hs : s.status ≠ .illegalState) :
    t.status ≠ .illegalState := by
  cases h with
  | goesOn h => exact hs ∘ h.status
  | closes bs he hc hst => exact hst
  | fails bs he hc hst =>
    intro hi
    simp [hi, postUpgradeErrors] at hst

theorem setStatus_reports {e : Status} (he : e ≠ .illegalState) (s : State) : Reports s { s with status := e } :=
  .goesOn (.of_events_eq rfl rfl (fun h => absurd h he) rfl)

theorem complete_reports {e : Status} (he : e ≠ .illegalState) (s : State) : Reports s (complete e s) :=
  .goesOn (.of_events_eq rfl rfl (fun h => absurd h he) rfl)

theorem closeSession_reports {s : State} (hst : s.status ≠ .illegalState) : Reports s (closeSession s) :=
  .closes [] (by simp) (by simp) (by simpa using hst)

theorem failSession_reports {e : Status} (he : e ∈ postUpgradeErrors) (s : State) : Reports s (failSession e s) :=
  .fails [] (by simp) (by simp) (by simpa using he)

/-- Another hidden position is nothing that the outside sees. -/
theorem Sends.setEngine {s t : State} (h : Sends s t) (e : Engine) : Sends s { t with engine := e } :=
  ⟨h.sess, h.owned, h.status, h.events⟩

theorem finishDecode_reports {r : DecResult} {s t : State} (hr : ∀ u, decState r = some u → SameButRx s u)
    (he : r.ErrorsEndSession) (h : finishDecode r = .next t) : Reports s t := by
  cases r with
  | frame o p u =>
    cases h
    exact (complete_reports (by simp) u).after (hr u rfl).sends
  | close u =>
    cases h
    exact .goesOn ((hr u rfl).sends.trans (.of_events_eq rfl rfl (by simp) rfl))
  | err e u =>
    cases h
    exact (failSession_reports he u).after (hr u rfl).sends
  | waiting ph got u =>
    cases h
    exact .goesOn ((hr u rfl).sends.setEngine _)
  | overCap => cases h

theorem finishEncode_reports {r : EncResult} {s t : State} (hr : Sends s (encState r))
    (h : finishEncode r = .next t) : Reports s t := by
  cases r with
  | ok u =>
    cases h
    exact (complete_reports (by simp) u).after hr
  | ioError u =>
    cases h
    exact (failSession_reports (by simp [postUpgradeErrors]) u).after hr
  | waiting job u =>
    cases h
    exact .goesOn (hr.setEngine _)

theorem finishEcho_reports {l : Loop} {r : EncResult} {s t : State} (hr : Sends s (encState r))
    (h : finishEcho l r = .next t) : Reports s t := by
  cases r with
  | ok u =>
    cases h
    exact .goesOn (hr.trans (.of_events_eq rfl rfl (by simp) rfl))
  | ioError u =>
    cases h
    exact (failSession_reports (by simp [postUpgradeErrors]) u).after hr
  | waiting job u =>
    cases h
    exact .goesOn (hr.setEngine _)

theorem finishReply_reports {r : EncResult} {s t : State} (hr : Sends s (encState r))
    (h : finishReply r = .next t) : Reports s t := by
  cases r with
  | ok u =>
    cases h
    have hc : Sends u (complete .closeReceived u) := .of_events_eq rfl rfl (by simp) rfl
    exact (closeSession_reports (by simp)).after (hr.trans hc)
  | ioError u =>
    cases h
    exact (failSession_reports (by simp [postUpgradeErrors]) u).after hr
  | waiting job u =>
    cases h
    exact .goesOn (hr.setEngine _)

theorem finishFrame_reports {l : Loop} {r : DecResult} {s t : State} (hr : ∀ u, decState r = some u → SameButRx s u)
    (he : r.ErrorsEndSession) (h : finishFrame l r = .next t) : Reports s t := by
  cases r with
  | frame o p u => exact (finishEcho_reports (encodeFrame_sends o p u) h).after (hr u rfl).sends
  | close u =>
    have hc : Sends u { u with closeRcvd := true } := .of_events_eq rfl rfl id rfl
    exact (finishReply_reports (encodeFrame_sends _ _ _) h).after ((hr u rfl).sends.trans hc)
  | err e u =>
    cases h
    exact (failSession_reports he u).after (hr u rfl).sends
  | waiting ph got u =>
    cases h
    exact .goesOn ((hr u rfl).sends.setEngine _)
  | overCap => cases h

/-- Where the session is not closed, the command goes on in it. -/
theorem Reports.sends {s t : State} (h : Reports s t) (ht : t.sess ≠ .closed) : Sends s t := by
  cases h with
  | goesOn h => exact h
  | closes bs he hs hst => exact absurd hs ht
  | fails bs he hs hst => exact absurd hs ht

/-- `RUN` stands at a frame boundary only in the session it began in. -/
theorem Leaves.same_of_boundary {s t : State} (h : Leaves .reading s t) (hb : t.engine = .frame .run .hdr []) :
    SameButStreams s t := by
  cases h with
  | stays h hw => exact h
  | sentinel h hr hw => simp [hb, Work.waitsIn] at hw
  | closes c h he => simp [hb] at he

theorem iterate_reports {l : Loop} {got : List Byte} {s t : State} (hm : mayDecode s = true)
    (h : iterate l got s = .next t) : Reports s t := by
  rw [iterate_eq l got hm] at h
  exact finishFrame_reports (fun u => decodeFrame_same) (decodeFrame_errors got s) h

theorem keepRunning_reports {r : Result} {s t : State} (hm : mayDecode s = true)
    (hr : ∀ u, r = .next u → Leaves .reading s u ∧ Reports s u) (h : keepRunning r = .next t) : Reports s t := by
  refine (keepRunning_induct (P := fun u => Leaves .reading s u ∧ Reports s u) ?_ hr h).2
  rintro u v ⟨hl, hu⟩ hb hv
  have hsame := hl.same_of_boundary hb
  have hopen : u.sess = .opened := hsame.sess.trans ((mayDecode_iff s).mp hm).1
  exact ⟨(iterate_leaves hv).after_same hsame,
    (iterate_reports (hsame.mayDecode.trans hm) hv).after (hu.sends (by simp [hopen]))⟩

/-- `STEP` and `RUN` from whichever read they are in. -/
theorem keepRunning_finishFrame_reports {l : Loop} {r : DecResult} {s t : State} (hm : mayDecode s = true)
    (hr : ∀ u, decState r = some u → SameButRx s u) (he : r.ErrorsEndSession)
    (h : keepRunning (finishFrame l r) = .next t) : Reports s t :=
  keepRunning_reports hm (fun _ hu => ⟨finishFrame_leaves hr hu, finishFrame_reports hr he hu⟩) h

/-! ### A command taken up again -/

theorem resumeRead_reports {s t : State} (hi : engineInv s) (h : resumeRead s = .next t) :
    t = s ∨ (s.sess = .opened ∧ Reports s t) := by
  unfold engineInv at hi
  cases he : s.engine with
  | decode ph got =>
    rw [he] at hi
    rw [resumeRead_decode he] at h
    exact .inr ⟨hi.1, finishDecode_reports (fun u => resumeDecode_same) (resumeDecode_errors ph got s) h⟩
  | frame l ph got =>
    rw [he] at hi
    have hm : mayDecode s = true := (mayDecode_iff s).mpr hi
    rw [resumeRead_frame he hm] at h
    exact .inr ⟨hi.1, keepRunning_finishFrame_reports hm (fun u => resumeDecode_same) (resumeDecode_errors ph got s) h⟩
  | idle | encode job | echo l job | reply job =>
    rw [resumeRead_of_not_inRead (by simp [inRead, he])] at h
    cases h
    exact .inl rfl

theorem resumeWrite_of_not_inWrite {s : State} (h : inWrite s = false) : resumeWrite s = .next s := by
  unfold inWrite at h
  unfold resumeWrite
  split at h <;> simp_all

theorem resumeWrite_reports {s t : State} (hi : engineInv s) (h : resumeWrite s = .next t) :
    t = s ∨ (s.sess = .opened ∧ Reports s t) := by
  unfold engineInv at hi
  cases he : s.engine with
  | encode job =>
    rw [he] at hi
    rw [resumeWrite_writer (w := .encode) he] at h
    exact .inr ⟨hi, finishEncode_reports (resumeEncode_sends job s) h⟩
  | echo l job =>
    rw [he] at hi
    rw [resumeWrite_writer (w := .echo l) he] at h
    refine .inr ⟨hi.1, keepRunning_reports ((mayDecode_iff s).mpr hi) (fun u hu => ⟨?_, ?_⟩) h⟩
    · exact finishEcho_leaves (resumeEncode_same job s) hu
    · exact finishEcho_reports (resumeEncode_sends job s) hu
  | reply job =>
    rw [he] at hi
    rw [resumeWrite_writer (w := .reply) he] at h
    exact .inr ⟨hi.1, finishReply_reports (resumeEncode_sends job s) h⟩
  | idle | decode ph got | frame l ph got =>
    rw [resumeWrite_of_not_inWrite (by simp [inWrite, he])] at h
    cases h
    exact .inl rfl

/-! ### An instruction and the legality table -/

/-- A frame instruction has the row of `STEP` (44 R261, log 17). -/
theorem admitted_of_frame {i : Instr} (hi : i.space = .frame) (s : State) :
    admitted i s.sess s.closeRcvd = mayDecode s := by
  cases i <;> cases hi <;> rfl

/-- 44 R261, 30 R113: where the table rules an instruction out, it writes `STATUS` alone. -/
theorem exec_not_admitted {i : Instr} {s : State} (h : admitted i s.sess s.closeRcvd = false) :
    exec i s = .next (illegalState s) := by
  cases hi : i.space with
  | frame => exact exec_decoder_illegal (.inr hi) (admitted_of_frame hi s ▸ h)
  | command =>
    cases i with
    | nop | reservedLowA w | reservedLowC w | reservedBit4 w | reservedBit5 w | reservedBit6 w | reservedBit7 w =>
      cases h
    | hsderive | takeok | takefail => exact if_neg (by simpa [admitted] using h)
    | decode | step | run => exact exec_decoder_illegal (.inl (by simp)) h
    | encode | encclose | release => exact if_neg (Bool.eq_false_iff.mp h)
    | _ => cases hi

/-- An instruction that an open session admits. -/
theorem exec_reports {i : Instr} {s t : State} (hs : s.sess = .opened) (ha : admitted i s.sess s.closeRcvd = true)
    (h : exec i s = .next t) : Reports s t := by
  cases hi : i.space with
  | frame =>
    obtain ⟨b0, b1, hx⟩ := exec_frame_legal hi
    rw [hx s (admitted_of_frame hi s ▸ ha)] at h
    exact finishFrame_reports (fun u => afterHeader_same) (afterHeader_errors b0 b1 s) h
  | command =>
    cases i with
    | nop | reservedLowA w | reservedLowC w | reservedBit4 w | reservedBit5 w | reservedBit6 w | reservedBit7 w =>
      cases h
      exact setStatus_reports (by simp) s
    | hsderive | takeok | takefail => simp [admitted, hs] at ha
    | decode =>
      rw [exec_decode ha] at h
      exact finishDecode_reports (fun u => decodeFrame_same) (decodeFrame_errors [] s) h
    | encode =>
      have hm : mayEncode s = true := ha
      rw [exec, execEncode, if_pos hm] at h
      split_ifs at h
      exact finishEncode_reports (encodeFrame_sends _ _ s) h
    | encclose =>
      have hm : mayEncode s = true := ha
      rw [exec, execEncclose, if_pos hm] at h
      split_ifs at h
      · cases h
        exact setStatus_reports (by simp) s
      · exact finishEncode_reports (encodeFrame_sends _ _ s) h
    | step =>
      rw [exec_step ha] at h
      exact keepRunning_finishFrame_reports ha (fun u => decodeFrame_same) (decodeFrame_errors [] s) h
    | run =>
      rw [exec_run ha] at h
      exact keepRunning_finishFrame_reports ha (fun u => decodeFrame_same) (decodeFrame_errors [] s) h
    | release =>
      have hm : mayEncode s = true := ha
      rw [exec, execRelease, if_pos hm] at h
      cases h
      exact .closes [] (by simp) (by simp) (by simp)
    | _ => cases hi

end Sys2Proof.Machine
end

section
/-! One release for a session that opened, `IllegalState`, and the end of the session (44 R261, R281, R282). -/

namespace Sys2Proof.Machine

/-! ### Releases -/

@[simp] theorem releases_append (as bs : List Event) : releases (as ++ bs) = releases as + releases bs :=
  List.countP_append

@[simp] theorem releases_sent (bs : List Byte) : releases (bs.map Event.sent) = 0 := by
  simp [releases]

/-- From `s` to `t` events are only appended, among them one release if the session leaves `OPEN`, else none. -/
def ReleasesOnLeaving (s t : State) : Prop :=
  ∃ evs : List Event, t.events = s.events ++ evs ∧
    releases evs = if s.sess = .opened ∧ t.sess ≠ .opened then 1 else 0

theorem ReleasesOnLeaving.of_events_eq {s t : State} (he : t.events = s.events)
    (hs : s.sess = .opened → t.sess = .opened) : ReleasesOnLeaving s t :=
  ⟨[], by simp [he], by rw [if_neg fun h => h.2 (hs h.1)]; rfl⟩

/-- A command at work in an open session, which owns its stream (10 R29). -/
theorem Reports.releasesOnLeaving {s t : State} (h : Reports s t) (hs : s.sess = .opened) (ho : s.owned = true) :
    ReleasesOnLeaving s t := by
  have hr : releaseOf s = [.release] := if_pos ho
  cases h with
  | goesOn h =>
    obtain ⟨bs, he⟩ := h.events
    exact ⟨bs.map Event.sent, he, by simp [h.sess, hs]⟩
  | closes bs he hc hst =>
    exact ⟨bs.map Event.sent ++ releaseOf s, by simp [he], by simp [hs, hc, hr, releases]⟩
  | fails bs he hc hst =>
    exact ⟨bs.map Event.sent ++ .log t.status :: releaseOf s, by simp [he], by simp [hs, hc, hr, releases]⟩

/-- Outside `OPEN` no instruction adds an event; in it one that is admitted does so at work. -/
theorem exec_releasesOnLeaving {i : Instr} {s t : State} (ho : s.sess = .opened → s.owned = true)
    (h : exec i s = .next t) : ReleasesOnLeaving s t := by
  by_cases hs : s.sess = .opened
  · cases ha : admitted i s.sess s.closeRcvd with
    | true => exact (exec_reports hs ha h).releasesOnLeaving hs (ho hs)
    | false =>
      rw [exec_not_admitted ha] at h
      cases h
      exact .of_events_eq rfl id
  · cases exec_ran h with
    | streamed w hw hl h hp => exact absurd hl.1 hs
    | status e h | rejected e hs' h | accepted hs' h | taken hs' h | notTaken hs' h =>
      subst h
      exact .of_events_eq rfl fun h => absurd h hs

theorem runInv.owned_of_opened {s : State} (hs : runInv s) (h : s.sess = .opened) : s.owned = true := by
  obtain ⟨-, ⟨hown, -⟩, -, -⟩ := hs
  exact hown.mpr h

/-- Settles O49: by what a step can be (`Stepped`); a command at work releases once, when it closes the session
(`Reports`). -/
theorem releasedExactlyOnce : Obligations.ReleasedExactlyOnce := by
  intro s t hs h
  have ho := hs.owned_of_opened
  show ReleasesOnLeaving s t
  cases step_stepped h with
  | outside h hm =>
    rw [h]
    exact .of_events_eq rfl id
  | reset rest hi hb h' =>
    rw [step_of_inputs hi] at h
    obtain ⟨hown, -, rfl⟩ := applyReset_next h
    exact .of_events_eq rfl fun hopen => by simp [ho hopen] at hown
  | ran i rest hb h => exact exec_releasesOnLeaving (s := { s with inputs := rest }) ho h
  | readOn rest rx e h =>
    have hi : engineInv { s with inputs := rest, rx := rx, rxEnd := e } := hs.engineInv
    rcases resumeRead_reports hi h with rfl | ⟨hopen, hr⟩
    · exact .of_events_eq rfl id
    · exact hr.releasesOnLeaving hopen (ho hopen)
  | wroteOn rest ds h =>
    have hi : engineInv { s with inputs := rest, txDraws := ds } := hs.engineInv
    rcases resumeWrite_reports hi h with rfl | ⟨hopen, hr⟩
    · exact .of_events_eq rfl id
    · exact hr.releasesOnLeaving hopen (ho hopen)

/-! ### `IllegalState` -/

/-- An instruction that is admitted does not report `IllegalState` (44 R261). -/
theorem exec_admitted_status {i : Instr} {s t : State} (ha : admitted i s.sess s.closeRcvd = true)
    (hst : s.status ≠ .illegalState) (h : exec i s = .next t) : t.status ≠ .illegalState := by
  by_cases hs : s.sess = .opened
  · exact (exec_reports hs ha h).status_ne hst
  · cases i with
    | nop | reservedLowA w | reservedLowC w | reservedBit4 w | reservedBit5 w | reservedBit6 w | reservedBit7 w =>
      cases h
      simp
    | hsderive =>
      have hhs : s.sess = .hs := beq_iff_eq.mp ha
      rw [exec, execHsderive, if_pos hhs] at h
      split_ifs at h <;> cases h <;> simp [failHandshake, acceptHandshake]
    | takeok | takefail =>
      have hu : s.sess = .upg := beq_iff_eq.mp ha
      cases (if_pos hu).symm.trans h
      simp
    | _ => simp [admitted, hs] at ha

/-- Settles O12: both directions of the legality table, `exec_not_admitted` and `exec_admitted_status`. -/
theorem illegalStateChangesOnlyStatus : Obligations.IllegalStateChangesOnlyStatus := fun _ _ =>
  ⟨exec_not_admitted, fun _ => exec_admitted_status⟩

/-! ### The closed session -/

/-- `t` is closed and no command runs in it; the RX position, TX, the events and `RELEASED` are those of `s` (44 R281). -/
def StaysClosed (s t : State) : Prop :=
  t.sess = .closed ∧ t.rxPos = s.rxPos ∧ t.tx = s.tx ∧ t.events = s.events ∧ t.released = s.released ∧ busy t = false

theorem exec_staysClosed {i : Instr} {s t : State} (hs : s.sess = .closed) (hb : busy s = false)
    (h : exec i s = .next t) : StaysClosed s t := by
  cases exec_ran h with
  | status e h =>
    subst h
    exact ⟨hs, rfl, rfl, rfl, rfl, hb⟩
  | rejected e hs' h | accepted hs' h | taken hs' h | notTaken hs' h => simp [hs] at hs'
  | streamed w hw hl h hp => simp [Work.legal, hs] at hl

/-- Settles O48: the table admits none of the commands, and by what a step can be (`Stepped`). -/
theorem closedIsTerminal : Obligations.ClosedIsTerminal := by
  refine ⟨fun s i hs hi => exec_not_admitted ?_, fun s t hs hb hi h => ?_⟩
  · rw [hs]
    simp only [List.mem_cons, List.not_mem_nil, or_false] at hi
    rcases hi with rfl | rfl | rfl | rfl | rfl | rfl | rfl | rfl | rfl <;> rfl
  · have he : s.engine = .idle := by simpa [busy] using hb
    cases step_stepped h with
    | outside h hm =>
      rw [h]
      exact ⟨hs, rfl, rfl, rfl, rfl, hb⟩
    | reset rest hr hb' h' => simp [hr] at hi
    | ran i rest hb' h => exact exec_staysClosed (s := { s with inputs := rest }) hs hb h
    | readOn rest rx e h =>
      have hr := inRead_of_idle (s := { s with inputs := rest, rx := rx, rxEnd := e }) he
      cases (resumeRead_of_not_inRead hr).symm.trans h
      exact ⟨hs, rfl, rfl, rfl, rfl, hb⟩
    | wroteOn rest ds h =>
      have hw := inWrite_of_idle (s := { s with inputs := rest, txDraws := ds }) he
      cases (resumeWrite_of_not_inWrite hw).symm.trans h
      exact ⟨hs, rfl, rfl, rfl, rfl, hb⟩

end Sys2Proof.Machine
end

section
/-! The handoff, and the iterations of `STEP`, `RUN` and the frame instructions: echo, close reply and fragment
(44 R263 to R280). -/

namespace Sys2Proof.Machine

/-! ### The handoff -/

/-- Settles O8: the only arm of `NOP`. -/
theorem nopWritesStatusOnly : Obligations.NopWritesStatusOnly := fun _ => rfl

/-- Settles O9: the two arms of `TAKEOK`. -/
theorem takeokOpensSession : Obligations.TakeokOpensSession := fun _ => ⟨fun h => if_pos h, fun h => if_neg h⟩

/-- Settles O10: the two arms of `TAKEFAIL`. -/
theorem takefailClosesSession : Obligations.TakefailClosesSession := fun _ => ⟨fun h => if_pos h, fun h => if_neg h⟩

theorem exec_release {s : State} (hs : s.sess = .opened) : exec .release s = .next (complete .ok (closeSession s)) :=
  if_pos ((mayEncode_iff s).mpr ⟨hs, trivial⟩)

/-- Settles O11: `CloseSession` on an owned stream, and on none. -/
theorem releaseClosesSession : Obligations.ReleaseClosesSession := by
  intro s hs
  refine ⟨fun ho => ?_, fun ho => ?_⟩
  · rw [exec_release hs, closeSession_owned ho]
    rfl
  · rw [exec_release hs, closeSession_not_owned ho]
    rfl

/-! ### A frame instruction on a whole frame -/

theorem exec_frameOf (o : BitVec 4) (f : Bool) (r : BitVec 3) (m : Bool) (l : BitVec 7) (s : State) :
    exec (frameOf o f r m l) s = runFrame o f r m l s := by
  rw [← decodeFrameHeader_headerBytes, exec_decodeFrameHeader, decodeFrameHeader_headerBytes, dispatchFrame_frameOf]

/-- The rest of a whole frame of an opcode other than close, its header read (42 R217 to R220). -/
theorem afterHeader_whole {b0 b1 : Byte} {key : Word} {ext payload rest : List Byte} {s : State}
    (hop : headerOpcode b0 ≠ 0x8) (hf : frameFits (headerLen7 b1) ext payload s.cfg)
    (h : s.rx = frameTail (headerMasked b1) key ext payload ++ rest) :
    afterHeader b0 b1 s =
      wholeResult b0 payload (decodedFrame b0 b1 key payload rest
        (frameTail (headerMasked b1) key ext payload).length s) := by
  obtain ⟨hx, hl, hc⟩ := hf
  have ht : frameTail (headerMasked b1) key ext payload = ext ++ frameTail (headerMasked b1) key [] payload := rfl
  rw [ht, List.append_assoc] at h
  rw [afterHeader, if_neg hop, readExt]
  simp only [setHeader]
  rw [rxRead_append (s := { s with rxb0 := b0, rxb1 := b1 }) h hx, ht, List.length_append, hx]
  refine Eq.trans (afterLength_whole (key := key) (payload := payload) (rest := rest) rfl hl hc) ?_
  simp [decodedFrame, Nat.add_assoc]

section
variable {o : BitVec 4} {f : Bool} {r : BitVec 3} {m : Bool} {l : BitVec 7} {key : Word} {ext payload rest : List Byte}
  {s : State} (hm : mayDecode s = true) (ho : o ≠ 0x8) (hf : frameFits l ext payload s.cfg)
include hm ho hf

/-- A frame instruction whose frame is there whole dispatches on it. -/
theorem exec_frameOf_whole (h : s.rx = frameTail m key ext payload ++ rest) :
    exec (frameOf o f r m l) s =
      finishFrame (loopOf s) (wholeResult (headerByte0 f r o) payload
        (decodedFrame (headerByte0 f r o) (headerByte1 m l) key payload rest
          (frameTail m key ext payload).length s)) := by
  have hw := @afterHeader_whole (headerByte0 f r o) (headerByte1 m l) key ext payload rest s
  simp only [headerOpcode_byte0, headerLen7_byte1, headerMasked_byte1] at hw
  rw [exec_frameOf, runFrame, if_pos hm, hw ho hf h]

/-- `STEP`, the header still on RX, likewise. -/
theorem exec_step_whole
    (h : s.rx = headerByte0 f r o :: headerByte1 m l :: (frameTail m key ext payload ++ rest)) :
    exec .step s =
      finishFrame .step (wholeResult (headerByte0 f r o) payload
        (decodedFrame (headerByte0 f r o) (headerByte1 m l) key payload rest
          (2 + (frameTail m key ext payload).length) s)) := by
  have hw := @decodeFrame_whole (headerByte0 f r o) (headerByte1 m l) key ext payload rest s
  simp only [headerOpcode_byte0, headerLen7_byte1, headerMasked_byte1] at hw
  rw [exec_step hm, keepRunning_finishFrame_step, hw ho hf h]

end

/-! ### The echo -/

/-- Both writes of the echo complete: the iteration is done (44 R271). -/
theorem finishFrame_echo (l : Loop) (o : BitVec 4) (p : List Byte) {ds : List TxDraw} {s : State}
    (h : s.txDraws = .ok :: .ok :: ds) :
    finishFrame l (.frame o p s) =
      .next { sentBytes (encodeHeader o (BitVec.ofNat 32 p.length) ++ p) ds s with
        status := .ok, engine := afterIteration l } := by
  rw [finishFrame, encodeFrame_sent o p h]
  rfl

/-- Settles O37: `DecodeFrame` on the whole frame passes the `fin` test, and the echo is sent. -/
theorem stepEchoesFrame : Obligations.StepEchoesFrame := by
  intro s b0 b1 key ext payload rest ds hs hc hop hfin hfit hrx hds
  rw [exec_step ((mayDecode_iff s).mpr ⟨hs, hc⟩), keepRunning_finishFrame_step, decodeFrame_whole hop hfit hrx,
    wholeResult, if_pos hfin]
  exact finishFrame_echo .step _ _ hds

/-- Settles O38: each of the instructions is the `frameOf` of its opcode, whose echo is sent. -/
theorem dataFrameOpcodesEcho : Obligations.DataFrameOpcodesEcho := by
  intro i o rsv masked len7 hi s key ext payload rest ds hs hc hfit hrx hds
  obtain ⟨rfl, ho⟩ : i = frameOf o true rsv masked len7 ∧ o ≠ 0x8 := by
    simp only [List.mem_cons, List.not_mem_nil, or_false, Prod.mk.injEq] at hi
    rcases hi with ⟨rfl, rfl⟩ | ⟨rfl, rfl⟩ | ⟨rfl, rfl⟩ | ⟨rfl, rfl⟩ | ⟨rfl, rfl⟩ | ⟨rfl, rfl⟩ | ⟨rfl, rfl⟩ |
      ⟨rfl, rfl⟩ | ⟨rfl, rfl⟩ | ⟨rfl, rfl⟩ | ⟨rfl, rfl⟩ | ⟨rfl, rfl⟩ | ⟨rfl, rfl⟩ | ⟨rfl, rfl⟩ | ⟨rfl, rfl⟩ <;>
      exact ⟨rfl, by decide⟩
  rw [exec_frameOf_whole ((mayDecode_iff s).mpr ⟨hs, hc⟩) ho hfit hrx, wholeResult, if_pos (headerFin_byte0 ..),
    headerOpcode_byte0]
  exact finishFrame_echo _ _ _ hds

/-! ### The close reply -/

/-- Both writes of the close reply complete: the session closes and the owned stream is released (44 R270). -/
theorem finishReply_sent {code : BitVec 16} {ds : List TxDraw} {s : State} (ho : s.owned = true)
    (h : s.txDraws = .ok :: .ok :: ds) :
    finishReply (encodeClose code closeReplyReason s) =
      .next { s with
        status := .closeReceived, engine := .idle, sess := .closed, owned := false, released := true
        tx := s.tx ++ ([0x88, 0x05] ++ be16 code ++ [0x62, 0x79, 0x65])
        events := s.events ++ ([0x88, 0x05] ++ be16 code ++ [0x62, 0x79, 0x65]).map Event.sent ++ [.release]
        txDraws := ds } := by
  rw [encodeClose, encodeFrame_sent _ _ h, finishReply]
  exact congrArg Host.Outcome.next (closeSession_owned (s := complete .closeReceived (sentBytes _ ds s)) ho)

/-- Settles O39: `DecodeFrame` stops at the close sentinel, and the reply is sent. -/
theorem stepAndRunAnswerClose : Obligations.StepAndRunAnswerClose := by
  intro i s b0 b1 rest ds hi hs hc ho hop hrx hds
  obtain ⟨l, he⟩ := exec_step_or_run hi ((mayDecode_iff s).mpr ⟨hs, hc⟩)
  rw [he, decodeFrame_close hop hrx, finishFrame, keepRunning_finishReply]
  exact finishReply_sent ho hds

/-- Settles O40: the close sentinel needs the header alone. -/
theorem closeFrameReplies : Obligations.CloseFrameReplies := by
  intro s fin rsv masked len7 ds hs hc ho hds
  have hm : mayDecode s = true := (mayDecode_iff s).mpr ⟨hs, hc⟩
  have he : exec (.frameClose fin rsv masked len7) s = runFrame 0x8 fin rsv masked len7 s := rfl
  rw [he, runFrame, if_pos hm, afterHeader, if_pos (headerOpcode_byte0 ..), finishFrame]
  exact finishReply_sent ho hds

/-! ### The fragment -/

/-- A whole frame with `fin = 0` ends the owned session (44 R269, 42 R219). -/
theorem finishFrame_fragment (l : Loop) (rsv : BitVec 3) (o : BitVec 4) (p : List Byte) {s : State}
    (ho : s.owned = true) :
    finishFrame l (wholeResult (headerByte0 false rsv o) p s) =
      .next (sessionOver .fragmentationUnsupported s) := by
  rw [wholeResult, if_neg (by simp [headerFin_byte0]), finishFrame, failSession_sessionOver _ ho]

/-- Settles O41: the frame is stored whole and fails the `fin` test, its header read or still on RX. -/
theorem fragmentEndsSession : Obligations.FragmentEndsSession := by
  intro s o rsv masked len7 key ext payload rest hs hc hown ho hfit
  have hm : mayDecode s = true := (mayDecode_iff s).mpr ⟨hs, hc⟩
  refine ⟨fun hrx => ?_, fun hrx => ?_⟩
  · rw [exec_frameOf_whole hm ho hfit hrx]
    exact finishFrame_fragment _ rsv o payload hown
  · rw [exec_step_whole hm ho hfit hrx]
    exact finishFrame_fragment _ rsv o payload hown

/-! ### `RUN` -/

/-- An iteration of `STEP` that is done, done by `RUN`: it closed the session alike, or `RUN` stands at the header of the
next frame (44 R268, R272). -/
theorem finishFrame_run_of_step {s t : State} (hm : mayDecode s = true)
    (h : finishFrame .step (decodeFrame [] s) = .next t) (hb : busy t = false) :
    (t.sess = .closed ∧ finishFrame .run (decodeFrame [] s) = .next t) ∨
      (mayDecode t = true ∧ finishFrame .run (decodeFrame [] s) = .next (atHeader .run t)) := by
  have hsame := fun u => decodeFrame_same (got := []) (s := s) (t := u)
  generalize decodeFrame [] s = r at h hsame
  cases r with
  | frame o p u =>
    have he := encodeFrame_same o p u
    simp only [finishFrame] at h ⊢
    generalize encodeFrame o p u = e at h he
    cases e with
    | ok v =>
      cases h
      exact .inr ⟨((hsame u rfl).streams.trans he.streams).mayDecode.trans hm, rfl⟩
    | ioError v =>
      cases h
      exact .inl ⟨failSession_sess _ _, rfl⟩
    | waiting job v =>
      cases h
      cases hb
  | close u =>
    simp only [finishFrame] at h ⊢
    generalize encodeClose _ _ _ = e at h
    cases e with
    | ok v =>
      cases h
      exact .inl ⟨closeSession_sess _, rfl⟩
    | ioError v =>
      cases h
      exact .inl ⟨failSession_sess _ _, rfl⟩
    | waiting job v =>
      cases h
      cases hb
  | err e u =>
    cases h
    exact .inl ⟨failSession_sess _ _, rfl⟩
  | waiting ph got u =>
    cases h
    cases hb
  | overCap => cases h

/-- Settles O43: the iteration that `RUN` begins with is that of `STEP` (`finishFrame_run_of_step`). -/
theorem runUnfoldsToStep : Obligations.RunUnfoldsToStep := by
  intro s t hs hc h hb
  have hm : mayDecode s = true := (mayDecode_iff s).mpr ⟨hs, hc⟩
  have he : t.engine = .idle := by simpa [busy] using hb
  rw [exec_step hm, keepRunning_finishFrame_step] at h
  rw [exec_run hm]
  rcases finishFrame_run_of_step hm h hb with ⟨ht, hr⟩ | ⟨hmt, hr⟩ <;> rw [hr]
  · exact ⟨fun _ => keepRunning_of_not_boundary (by simp [he]), fun ho => by simp [ht] at ho⟩
  · exact ⟨fun hcl => by simp [((mayDecode_iff t).mp hmt).1] at hcl, fun _ => (if_pos hmt).symm⟩

/-- `RUN` is at work or has closed the session. -/
def BusyOrClosed (t : State) : Prop := busy t = true ∨ t.sess = .closed

theorem finishFrame_run_busyOrClosed {r : DecResult} {t : State} (h : finishFrame .run r = .next t) :
    BusyOrClosed t := by
  cases r with
  | frame o p u =>
    simp only [finishFrame] at h
    generalize encodeFrame o p u = e at h
    cases e with
    | ok v | waiting job v =>
      cases h
      exact .inl rfl
    | ioError v =>
      cases h
      exact .inr (failSession_sess _ _)
  | close u =>
    simp only [finishFrame] at h
    generalize encodeClose _ _ _ = e at h
    cases e with
    | ok v =>
      cases h
      exact .inr (closeSession_sess _)
    | ioError v =>
      cases h
      exact .inr (failSession_sess _ _)
    | waiting job v =>
      cases h
      exact .inl rfl
  | err e u =>
    cases h
    exact .inr (failSession_sess _ _)
  | waiting ph got u =>
    cases h
    exact .inl rfl
  | overCap => cases h

theorem iterate_run_busyOrClosed {got : List Byte} {s t : State} (h : iterate .run got s = .next t) :
    BusyOrClosed t := by
  rcases iterate_cases .run got s with hi | ⟨n, hi⟩ <;> rw [hi] at h
  · exact finishFrame_run_busyOrClosed h
  · cases h
    exact .inl rfl

/-- Settles O44: `RUN` begins at work, and every iteration leaves it at work or the session closed. -/
theorem runEndsOnlyClosed : Obligations.RunEndsOnlyClosed := by
  intro s t hs hc h
  have hrun : exec .run s = keepRunning (.next (atHeader .run s)) := if_pos ((mayDecode_iff s).mpr ⟨hs, hc⟩)
  rw [hrun] at h
  refine keepRunning_induct (P := BusyOrClosed) (fun _ _ _ _ hv => iterate_run_busyOrClosed hv) (fun u hu => ?_) h
  cases hu
  exact .inl rfl

end Sys2Proof.Machine
end

section
/-! What is logged, and what the peer reaches (60 R312, R313, R317). -/

namespace Sys2Proof.Machine

/-! ### Logs -/

/-- An instruction adds to the event history only at work in an open session. -/
theorem exec_reports_or_silent {i : Instr} {s t : State} (h : exec i s = .next t) :
    t.events = s.events ∨ (s.sess = .opened ∧ Reports s t) := by
  by_cases hs : s.sess = .opened
  · cases ha : admitted i s.sess s.closeRcvd with
    | true => exact .inr ⟨hs, exec_reports hs ha h⟩
    | false =>
      rw [exec_not_admitted ha] at h
      cases h
      exact .inl rfl
  · cases exec_ran h with
    | streamed w hw hl h hp => exact absurd hl.1 hs
    | status e h | rejected e hs' h | accepted hs' h | taken hs' h | notTaken hs' h =>
      subst h
      exact .inl rfl

/-- What comes in from outside, inputs, arrivals and draws, is no event. -/
theorem Reports.of_outside {s t : State} {is : List Input} {rx : List Byte} {e : RxEnd} {ds : List TxDraw}
    (h : Reports { s with inputs := is, rx := rx, rxEnd := e, txDraws := ds } t) : Reports s t :=
  have hsame : Sends s { s with inputs := is, rx := rx, rxEnd := e, txDraws := ds } := .of_events_eq rfl rfl id rfl
  h.after hsame

/-- A step adds to the event history only where a command, run or taken up again, is at work in an open session. -/
theorem step_reports_or_silent {s t : State} (hs : runInv s) (h : step s = .next t) :
    t.events = s.events ∨ (s.sess = .opened ∧ Reports s t) := by
  cases step_stepped h with
  | outside h hm => exact .inl (by rw [h])
  | reset rest hi hb h' =>
    rw [step_of_inputs hi] at h
    obtain ⟨-, -, rfl⟩ := applyReset_next h
    exact .inl rfl
  | ran i rest hb h =>
    exact (exec_reports_or_silent h).imp id fun ⟨ho, hr⟩ => ⟨ho, hr.of_outside⟩
  | readOn rest rx e h =>
    have hi : engineInv { s with inputs := rest, rx := rx, rxEnd := e } := hs.engineInv
    exact (resumeRead_reports hi h).imp (fun ht => by rw [ht]) fun ⟨ho, hr⟩ => ⟨ho, hr.of_outside⟩
  | wroteOn rest ds h =>
    have hi : engineInv { s with inputs := rest, txDraws := ds } := hs.engineInv
    exact (resumeWrite_reports hi h).imp (fun ht => by rw [ht]) fun ⟨ho, hr⟩ => ⟨ho, hr.of_outside⟩

/-- A command that logs has failed: what it adds is bytes sent, the log of the error it reports, and the release. -/
theorem Reports.fails_of_log {s t : State} {evs : List Event} {e : Status} (h : Reports s t) (ho : s.owned = true)
    (he : t.events = s.events ++ evs) (hl : Event.log e ∈ evs) :
    t.status ∈ postUpgradeErrors ∧ t.status = e ∧
      ∃ bs : List Byte, evs = bs.map Event.sent ++ [.log e, .release] := by
  have hr : releaseOf s = [.release] := if_pos ho
  cases h with
  | goesOn h =>
    obtain ⟨bs, hb⟩ := h.events
    obtain rfl : evs = bs.map Event.sent := List.append_cancel_left (he.symm.trans hb)
    simp at hl
  | closes bs hb hc hst =>
    rw [he, List.append_assoc, hr] at hb
    obtain rfl := List.append_cancel_left hb
    simp at hl
  | fails bs hb hc hst =>
    rw [he, List.append_assoc, hr] at hb
    obtain rfl := List.append_cancel_left hb
    obtain rfl : e = t.status := by simpa using hl
    exact ⟨hst, rfl, bs, rfl⟩

/-- Settles O50: a step that logs is a command at work (`step_reports_or_silent`) that fails. -/
theorem logsArePostUpgradeErrors : Obligations.LogsArePostUpgradeErrors := by
  intro s t evs e hs h he hl
  rcases step_reports_or_silent hs h with hq | ⟨hopen, hr⟩
  · obtain rfl : evs = [] := by simpa [hq] using he
    cases hl
  · obtain ⟨hst, rfl, bs, hev⟩ := hr.fails_of_log (hs.owned_of_opened hopen) he hl
    exact ⟨hst, rfl, bs.map Event.sent, hev, by simp⟩

/-! ### The peer -/

/-- What the peer sends or ends changes the stream at most, and then a read may go on. -/
theorem step_of_peer {s t : State} {i : Input} {rest : List Input}
    (hp : (∃ bs, i = .peerSend bs) ∨ (∃ kind, i = .peerEnd kind)) (hi : s.inputs = i :: rest) (h : step s = .next t) :
    ∃ rx e, t = { s with inputs := rest, rx := rx, rxEnd := e } ∨
      resumeRead { s with inputs := rest, rx := rx, rxEnd := e } = .next t := by
  rw [step_of_inputs hi] at h
  rcases hp with ⟨bs, rfl⟩ | ⟨kind, rfl⟩
  · rw [applyInput, peerSend] at h
    split_ifs at h
    · exact ⟨_, _, .inr h⟩
    · cases h
      exact ⟨_, _, .inl rfl⟩
  · rw [applyInput, peerEnd] at h
    split_ifs at h
    · exact ⟨_, _, .inr h⟩
    · cases h
      exact ⟨_, _, .inl rfl⟩

/-- Settles O51: by what the peer's step is (`step_of_peer`) and by what a command that reads leaves alone
(`Leaves.decoderFrame`); with no command running no read goes on. -/
theorem peerReachesNoOperand : Obligations.PeerReachesNoOperand := by
  intro s t i rest hp hi h
  obtain ⟨rx, e, rfl | hr⟩ := step_of_peer hp hi h
  · simp
  · refine ⟨?_, fun hb => ?_⟩
    · rcases resumeRead_leaves hr with rfl | ⟨-, hl⟩
      · simp
      · rw [hl.decoderFrame]
        simp
    · have he : s.engine = .idle := by simpa [busy] using hb
      have hq := inRead_of_idle (s := { s with inputs := rest, rx := rx, rxEnd := e }) he
      cases (resumeRead_of_not_inRead hq).symm.trans hr
      rfl

end Sys2Proof.Machine
end

section
/-! Reset, and the host's accesses while a command waits. -/

namespace Sys2Proof.Machine

/-! ### Reset -/

theorem applyReset_idle {s : State} (ho : s.owned = false) (hb : busy s = false) :
    applyReset s = .next (resetState s) := by
  simp [applyReset, ho, hb]

theorem applyReset_active {s : State} (h : s.owned = true ∨ busy s = true) :
    applyReset s = .refused .resetWhileActive := by
  simp [applyReset, h]

theorem stateSeen_resetWith (cfg : Config) : stateSeen (State.resetWith cfg) = 0 := by
  simp [stateSeen, stateReg, closeRcvdSeen, busy, sessCode, State.resetWith]

theorem readReg_resetWith (cfg : Config) (index : Byte) : readReg index (State.resetWith cfg) = 0 := by
  unfold readReg
  split
  case h_3 => rw [stateSeen_resetWith]; rfl
  all_goals rfl

/-- Reset leaves its reset value in every field but the parameters, the five buffers of unspecified content, the
history and what is the model's own. -/
theorem eq_resetWith_of_reset {s t : State} (h : applyReset s = .next t ∨ (t = State.reset ∧ s.events = [])) :
    t = { State.resetWith t.cfg with
      pbuf := t.pbuf, txbuf := t.txbuf, hconn := t.hconn, hupg := t.hupg, hkey := t.hkey, events := s.events,
      inputs := t.inputs, txDraws := t.txDraws, drawCount := t.drawCount, freeCount := t.freeCount,
      hostData := t.hostData } := by
  rcases h with h | ⟨rfl, he⟩
  · obtain ⟨-, -, rfl⟩ := applyReset_next h
    rfl
  · rw [he]
    rfl

/-- Settles O6: the registers, the flags and `ACCEPT` are fields that have their reset values
(`eq_resetWith_of_reset`). -/
theorem resetRestoresRegisters : Obligations.ResetRestoresRegisters := by
  intro s t h
  rw [eq_resetWith_of_reset h]
  exact ⟨readReg_resetWith t.cfg, rfl, rfl, rfl, rfl, rfl, rfl, rfl, rfl, fun _ _ => rfl, rfl, rfl, rfl⟩

/-- Settles O7: the two branches of `applyReset`. -/
theorem resetOnlyWhenIdle : Obligations.ResetOnlyWhenIdle := by
  intro s rest hi
  rw [step_of_inputs hi]
  exact ⟨applyReset_idle (s := { s with inputs := rest }), applyReset_active (s := { s with inputs := rest })⟩

theorem resetWith_runInv (cfg : Config) : runInv (State.resetWith cfg) :=
  runInv_of_idle (resetWith_memory_wf cfg) (by simp [sessionInv, State.resetWith]) rfl

/-- Settles O45: the first reset state is the one of the default parameters. -/
theorem invAfterReset : Obligations.InvAfterReset :=
  ⟨resetWith_runInv Config.default, resetWith_runInv⟩

/-! ### Host accesses while a command waits -/

theorem runCommand_busy (v : Word) {s : State} (hb : busy s = true) :
    runCommand v s = .refused .hostWriteWhileBusy := by
  simp [runCommand, hb]

theorem hostWriteReg_busy (index : Byte) (v : Word) {s : State} (hb : busy s = true) :
    hostWriteReg index v s = .refused .hostWriteWhileBusy := by
  simp [hostWriteReg, hb]

theorem hostWriteBuf_busy (b : BufName) (i : Nat) (v : Byte) {s : State} (hb : busy s = true) :
    hostWriteBuf b i v s = .refused .hostWriteWhileBusy := by
  simp [hostWriteBuf, hb]

theorem hostReadReg_state (s : State) : hostReadReg 0x02 s = .next { s with hostData := readReg 0x02 s } := by
  simp [hostReadReg]

/-- Settles O54: a write of `CMD`, of another register or of a buffer byte is refused at its own `BUSY` test, and a
read of `STATE` passes the port's. -/
theorem busyHostWritesRefused : Obligations.BusyHostWritesRefused := by
  intro s rest hb
  refine ⟨fun index v hi => ?_, fun b i v hi => ?_, fun hi => ?_⟩
  · rw [step_of_inputs hi, applyInput]
    split
    · exact runCommand_busy v (s := { s with inputs := rest }) hb
    · exact hostWriteReg_busy index v (s := { s with inputs := rest }) hb
  · rw [step_of_inputs hi]
    exact hostWriteBuf_busy b i v (s := { s with inputs := rest }) hb
  · rw [step_of_inputs hi]
    exact hostReadReg_state { s with inputs := rest }

end Sys2Proof.Machine
end
